-- ==== Sys2Proof/Word.lean ====
section
/-! DEFINITION. The word types of the 467CC LED pixel engine (spec/00_scope.md R7, R13). -/

namespace Sys2Proof

/-- A byte, `0..255`, bit 7 the most significant (R13). -/
abbrev Byte := BitVec 8

/-- The tick count, `TICK_W = 32` bits, unsigned (R7). -/
abbrev TickCount := BitVec 32

end Sys2Proof
end

