-- ==== Sys2Proof/Config.lean ====
section
/-! DEFINITION. The parameters the spec leaves to the implementation (spec/00_scope.md R4 to R9), as plain data, and the
one free value of the model. A machine's `Cfg` is its `cfg` port: straps or ROM (R11), which no operation writes. -/

namespace Sys2Proof

/-- A colour: three bytes, red first (R13, R51). -/
structure Colour where
  r : Byte
  g : Byte
  b : Byte
deriving DecidableEq, Repr

/-- The effect selector's four legal values (R8, R22). The spec lets a model type the field as a four-valued enumeration:
no value at or above `EFFECT_COUNT` is ever stored. The numbers of R8 are in `Effect.ofByte` and `Effect.toByte`. -/
inductive Effect where
  /-- `EFFECT_STATIC`. -/
  | static
  /-- `EFFECT_BREATHE_UP`. -/
  | breatheUp
  /-- `EFFECT_BREATHE_DOWN`. -/
  | breatheDown
  /-- `EFFECT_COLOR_CYCLE`. -/
  | colorCycle
deriving DecidableEq, Repr

/-- One Pixel Record (R20): the seven fields of the spec's table. -/
structure Pixel where
  /-- Base colour (R21). -/
  base : Colour
  /-- Effect selector (R22). -/
  effect : Effect
  /-- Effect phase counter, wraps at 256 (R23). -/
  phase : Byte
  /-- Speed divisor (R24). -/
  speed : Byte
  /-- Brightness scalar (R25). -/
  brightness : Byte
  /-- Derived output colour (R26). -/
  out : Colour
  /-- Envelope counter, hidden (R28). -/
  env : Byte
deriving DecidableEq, Repr

/-- One Section Record: the inclusive LED index pair `(start, end)`, two bytes (R32). -/
structure SectionRecord where
  first : Byte
  last : Byte
deriving DecidableEq, Repr

/-- The read-only configuration of one engine (R4 to R9, R31, R32). -/
structure Cfg where
  /-- `LED_COUNT` (R4). -/
  ledCount : Nat
  /-- `SECTION_TABLE` (R5, R32); its length is `SECTION_COUNT`. -/
  sections : List SectionRecord
  /-- `MSG_LEN` (R6). -/
  msgLen : Nat
  /-- The reset parameters `RESET_BASE` … `RESET_ENV` (R9, R37), as the record every pixel takes at reset. -/
  resetPixel : Pixel
  /-- The phases at which this device's `HSL2RGB` differs from R157's table, with what it gives there. R157 asks a model
  to take `HSL2RGB` as a configuration function whose default is that table; every function from bytes to colours is one
  such list, and the empty list is the default. -/
  hslPatch : List (Byte × Colour)
deriving DecidableEq, Repr

/-- `SECTION_COUNT` (R5). -/
def Cfg.sectionCount (c : Cfg) : Nat := c.sections.length

/-- The ranges the spec fixes for the parameters: R4, R5 (with the Section Record invariant), R6. -/
abbrev Cfg.Wf (c : Cfg) : Prop :=
  1 ≤ c.ledCount ∧ c.ledCount ≤ 255 ∧ c.sections.length ≤ 255 ∧ 8 ≤ c.msgLen ∧
    ∀ x ∈ c.sections, x.first.toNat ≤ x.last.toNat ∧ x.last.toNat < c.ledCount

/-- The default values of the reset parameters (R37). -/
def resetDefaults : Pixel where
  base := ⟨0, 0, 0⟩
  effect := .static
  phase := 0
  speed := 1
  brightness := 255
  out := ⟨0, 0, 0⟩
  env := 0

/-- `CFG_T`, the spec's test configuration (00_scope.md section 3).
DESIGN CHOICE (log 1): the spec gives the parameters no value; `State.reset` stands on these, no statement about every
state does. Unsafe. -/
def Cfg.testConfig : Cfg where
  ledCount := 8
  sections := [⟨0, 3⟩, ⟨4, 7⟩, ⟨0, 7⟩]
  msgLen := 8
  resetPixel := resetDefaults
  hslPatch := []

/-- FREE VALUE (DESIGN CHOICE, log 7): byte `offset` of the response to the `event`-th message that is not for the engine,
the message being `req`. R184 and R185 specify no byte of it, so it has no body. Safe. -/
opaque Config.foreignResponse (event : Nat) (req : List Byte) (offset : Nat) : Byte

end Sys2Proof
end

