-- ==== Sys2Proof/Syntax.lean ====
section
/-! DEFINITION. The operations of the engine: one constructor per row of spec/opcode_table.json (R9, R85, R86). -/

namespace Sys2Proof

/-- The operation set (R9): 24 LEDSET forms, 2 LEDMETA forms, LEDGET, and the port operations TICK and COMPOSE. Operands
are the decoded bytes in message order; bytes that are not decoded are no operands (they stay in the command buffer). -/
inductive Instr where
  /-- `LEDSET.SINGLE.COLOR` (R116). -/
  | ledsetSingleColor (idx r g b : Byte)
  /-- `LEDSET.SINGLE.EFFECT` (R117). -/
  | ledsetSingleEffect (idx eff : Byte)
  /-- `LEDSET.SINGLE.EFFECT_SPACED` (R118). -/
  | ledsetSingleEffectSpaced (idx eff : Byte)
  /-- `LEDSET.SINGLE.PHASE` (R119). -/
  | ledsetSinglePhase (idx v : Byte)
  /-- `LEDSET.SINGLE.SPEED` (R120). -/
  | ledsetSingleSpeed (idx v : Byte)
  /-- `LEDSET.SINGLE.BRIGHTNESS` (R121). -/
  | ledsetSingleBrightness (idx v : Byte)
  /-- `LEDSET.MULTIPLE.COLOR` (R122). -/
  | ledsetMultipleColor (first last r g b : Byte)
  /-- `LEDSET.MULTIPLE.EFFECT` (R123). -/
  | ledsetMultipleEffect (first last eff : Byte)
  /-- `LEDSET.MULTIPLE.EFFECT_SPACED` (R124). -/
  | ledsetMultipleEffectSpaced (first last eff : Byte)
  /-- `LEDSET.MULTIPLE.PHASE` (R125). -/
  | ledsetMultiplePhase (first last v : Byte)
  /-- `LEDSET.MULTIPLE.SPEED` (R126). -/
  | ledsetMultipleSpeed (first last v : Byte)
  /-- `LEDSET.MULTIPLE.BRIGHTNESS` (R127). -/
  | ledsetMultipleBrightness (first last v : Byte)
  /-- `LEDSET.SECTION.COLOR` (R128). -/
  | ledsetSectionColor (sec r g b : Byte)
  /-- `LEDSET.SECTION.EFFECT` (R129). -/
  | ledsetSectionEffect (sec eff : Byte)
  /-- `LEDSET.SECTION.EFFECT_SPACED` (R130). -/
  | ledsetSectionEffectSpaced (sec eff : Byte)
  /-- `LEDSET.SECTION.PHASE` (R131). -/
  | ledsetSectionPhase (sec v : Byte)
  /-- `LEDSET.SECTION.SPEED` (R132). -/
  | ledsetSectionSpeed (sec v : Byte)
  /-- `LEDSET.SECTION.BRIGHTNESS` (R133). -/
  | ledsetSectionBrightness (sec v : Byte)
  /-- `LEDSET.ALL.COLOR` (R134). -/
  | ledsetAllColor (r g b : Byte)
  /-- `LEDSET.ALL.EFFECT` (R135). -/
  | ledsetAllEffect (eff : Byte)
  /-- `LEDSET.ALL.EFFECT_SPACED` (R136). -/
  | ledsetAllEffectSpaced (eff : Byte)
  /-- `LEDSET.ALL.PHASE` (R137). -/
  | ledsetAllPhase (v : Byte)
  /-- `LEDSET.ALL.SPEED` (R138). -/
  | ledsetAllSpeed (v : Byte)
  /-- `LEDSET.ALL.BRIGHTNESS` (R139). -/
  | ledsetAllBrightness (v : Byte)
  /-- `LEDMETA.LEDCOUNT` (R180). -/
  | ledmetaLedcount
  /-- `LEDMETA.SECTIONCOUNT` (R181). -/
  | ledmetaSectioncount
  /-- `LEDGET` (R183), reserved. -/
  | ledget
  /-- `TICK t` (R150), a port operation. -/
  | tick (t : TickCount)
  /-- `COMPOSE` (R170), a port operation. -/
  | compose
deriving DecidableEq, Repr

end Sys2Proof
end

