-- ==== Sys2Proof/WellFormed.lean ====
section
/-! DEFINITION. Two checks on an operation. `wellFormed`: it is a command, that is, it has an encoding as a message (R84:
TICK and COMPOSE have none). `operandsOk`: its operands name things the configuration has, so that none of R191's operand
causes (F_INDEX, F_RANGE, F_SECTION, F_EFFECT) applies. A well-formed command with bad operands is still a command: it
decodes, executes and answers the error sentinel (R78). -/

namespace Sys2Proof

/-- It has an encoding as a command message: every operation but the two port operations (R84). -/
def Instr.wellFormed : Instr → Bool
  | .ledsetSingleColor _ _ _ _ => true
  | .ledsetSingleEffect _ _ => true
  | .ledsetSingleEffectSpaced _ _ => true
  | .ledsetSinglePhase _ _ => true
  | .ledsetSingleSpeed _ _ => true
  | .ledsetSingleBrightness _ _ => true
  | .ledsetMultipleColor _ _ _ _ _ => true
  | .ledsetMultipleEffect _ _ _ => true
  | .ledsetMultipleEffectSpaced _ _ _ => true
  | .ledsetMultiplePhase _ _ _ => true
  | .ledsetMultipleSpeed _ _ _ => true
  | .ledsetMultipleBrightness _ _ _ => true
  | .ledsetSectionColor _ _ _ _ => true
  | .ledsetSectionEffect _ _ => true
  | .ledsetSectionEffectSpaced _ _ => true
  | .ledsetSectionPhase _ _ => true
  | .ledsetSectionSpeed _ _ => true
  | .ledsetSectionBrightness _ _ => true
  | .ledsetAllColor _ _ _ => true
  | .ledsetAllEffect _ => true
  | .ledsetAllEffectSpaced _ => true
  | .ledsetAllPhase _ => true
  | .ledsetAllSpeed _ => true
  | .ledsetAllBrightness _ => true
  | .ledmetaLedcount => true
  | .ledmetaSectioncount => true
  | .ledget => true
  | .tick _ => false
  | .compose => false

/-- `idx` is an LED index (R56, R101). -/
def ledOk (c : Cfg) (idx : Byte) : Bool := idx.toNat < c.ledCount

/-- `first..last` is an inclusive LED range (R102). -/
def rangeOk (c : Cfg) (first last : Byte) : Bool := ledOk c first && ledOk c last && decide (first.toNat ≤ last.toNat)

/-- `sec` is a section id (R56, R103). -/
def sectionOk (c : Cfg) (sec : Byte) : Bool := sec.toNat < c.sectionCount

/-- `eff` is below `EFFECT_COUNT` (R8, R105). -/
def effectOk (eff : Byte) : Bool := eff.toNat < 4

/-- No operand cause of R191 applies under the configuration `c`. -/
def Instr.operandsOk (c : Cfg) : Instr → Bool
  | .ledsetSingleColor idx _ _ _ => ledOk c idx
  | .ledsetSingleEffect idx eff => ledOk c idx && effectOk eff
  | .ledsetSingleEffectSpaced idx eff => ledOk c idx && effectOk eff
  | .ledsetSinglePhase idx _ => ledOk c idx
  | .ledsetSingleSpeed idx _ => ledOk c idx
  | .ledsetSingleBrightness idx _ => ledOk c idx
  | .ledsetMultipleColor first last _ _ _ => rangeOk c first last
  | .ledsetMultipleEffect first last eff => rangeOk c first last && effectOk eff
  | .ledsetMultipleEffectSpaced first last eff => rangeOk c first last && effectOk eff
  | .ledsetMultiplePhase first last _ => rangeOk c first last
  | .ledsetMultipleSpeed first last _ => rangeOk c first last
  | .ledsetMultipleBrightness first last _ => rangeOk c first last
  | .ledsetSectionColor sec _ _ _ => sectionOk c sec
  | .ledsetSectionEffect sec eff => sectionOk c sec && effectOk eff
  | .ledsetSectionEffectSpaced sec eff => sectionOk c sec && effectOk eff
  | .ledsetSectionPhase sec _ => sectionOk c sec
  | .ledsetSectionSpeed sec _ => sectionOk c sec
  | .ledsetSectionBrightness sec _ => sectionOk c sec
  | .ledsetAllColor _ _ _ => true
  | .ledsetAllEffect eff => effectOk eff
  | .ledsetAllEffectSpaced eff => effectOk eff
  | .ledsetAllPhase _ => true
  | .ledsetAllSpeed _ => true
  | .ledsetAllBrightness _ => true
  | .ledmetaLedcount => true
  | .ledmetaSectioncount => true
  | .ledget => true
  | .tick _ => true
  | .compose => true

end Sys2Proof
end

