-- ==== Sys2Proof/Decode.lean ====
section
/-! DEFINITION. The decoder of command messages (spec/30_encoding.md R70 to R79), total on any bytes, and the encoder,
written from the same table (R74, R76, R77). -/

namespace Sys2Proof

/-! ### The named byte values (R71 to R73, R76); U25 asks that they be named constants. -/

/-- Opcodes (R71). -/
abbrev opLedset : Byte := 0x06
abbrev opLedmeta : Byte := 0x04
abbrev opLedget : Byte := 0x05
abbrev opProtocolVersion : Byte := 0x01
abbrev opTeamNumber : Byte := 0x02
abbrev opControllerState : Byte := 0x03
abbrev opEnterBootloader : Byte := 0xFE

/-- LEDSET sub-modes (R72). -/
abbrev modeSingle : Byte := 0x01
abbrev modeMultiple : Byte := 0x02
abbrev modeSection : Byte := 0x03
abbrev modeAll : Byte := 0x04

/-- LEDSET value kinds (R73). -/
abbrev kindColor : Byte := 0x01
abbrev kindEffect : Byte := 0x02
abbrev kindEffectSpaced : Byte := 0x03
abbrev kindPhase : Byte := 0x04
abbrev kindSpeed : Byte := 0x05
abbrev kindBrightness : Byte := 0x06

/-- LEDMETA sub-ids (R76). -/
abbrev subLedCount : Byte := 0x01
abbrev subSectionCount : Byte := 0x02

/-- The causes of failure (R191). They are labels of the spec for a model's use: every cause gives the same response. -/
inductive FailCause where
  /-- F_OPCODE: unknown opcode (R186). Raised by the decoder. -/
  | opcode
  /-- F_MODE: unknown LEDSET sub-mode. Raised by the decoder. -/
  | mode
  /-- F_KIND: unknown value kind. Raised by the decoder. -/
  | kind
  /-- F_INDEX: LED index at or above `LED_COUNT`. Raised by SINGLE and MULTIPLE forms. -/
  | index
  /-- F_RANGE: both indices exist and `start > end`. Raised by MULTIPLE forms. -/
  | range
  /-- F_SECTION: section id at or above `SECTION_COUNT`. Raised by SECTION forms. -/
  | sectionId
  /-- F_EFFECT: effect id at or above `EFFECT_COUNT`. Raised by EFFECT and EFFECT_SPACED forms. -/
  | effect
  /-- F_META: unknown LEDMETA sub-id (R182). Raised by the decoder. -/
  | subId
deriving DecidableEq, Repr

/-- The messages that the dispatcher handles without the engine (R71, R184, R185). -/
inductive Foreign where
  | protocolVersion
  | teamNumber
  | controllerState
  | enterBootloader
deriving DecidableEq, Repr

/-- What the decoder yields (R79). -/
inductive Decoded where
  /-- A decoded command. -/
  | command (i : Instr)
  /-- A failure cause: the command is answered with the error sentinel. -/
  | fail (cause : FailCause)
  /-- A message that is not for the engine. -/
  | foreign (f : Foreign)
  /-- Fewer than 8 bytes: no message of the port (R6 requires `MSG_LEN >= 8`). -/
  | short
deriving DecidableEq, Repr

/-- The value kind and value bytes of a SINGLE message (R73, R74). -/
def decodeSingle (idx kind v0 v1 v2 : Byte) : Decoded :=
  if kind = kindColor then .command (.ledsetSingleColor idx v0 v1 v2)
  else if kind = kindEffect then .command (.ledsetSingleEffect idx v0)
  else if kind = kindEffectSpaced then .command (.ledsetSingleEffectSpaced idx v0)
  else if kind = kindPhase then .command (.ledsetSinglePhase idx v0)
  else if kind = kindSpeed then .command (.ledsetSingleSpeed idx v0)
  else if kind = kindBrightness then .command (.ledsetSingleBrightness idx v0)
  else .fail .kind

/-- The value kind and value bytes of a MULTIPLE message (R73, R74). -/
def decodeMultiple (first last kind v0 v1 v2 : Byte) : Decoded :=
  if kind = kindColor then .command (.ledsetMultipleColor first last v0 v1 v2)
  else if kind = kindEffect then .command (.ledsetMultipleEffect first last v0)
  else if kind = kindEffectSpaced then .command (.ledsetMultipleEffectSpaced first last v0)
  else if kind = kindPhase then .command (.ledsetMultiplePhase first last v0)
  else if kind = kindSpeed then .command (.ledsetMultipleSpeed first last v0)
  else if kind = kindBrightness then .command (.ledsetMultipleBrightness first last v0)
  else .fail .kind

/-- The value kind and value bytes of a SECTION message (R73, R74). -/
def decodeSection (sec kind v0 v1 v2 : Byte) : Decoded :=
  if kind = kindColor then .command (.ledsetSectionColor sec v0 v1 v2)
  else if kind = kindEffect then .command (.ledsetSectionEffect sec v0)
  else if kind = kindEffectSpaced then .command (.ledsetSectionEffectSpaced sec v0)
  else if kind = kindPhase then .command (.ledsetSectionPhase sec v0)
  else if kind = kindSpeed then .command (.ledsetSectionSpeed sec v0)
  else if kind = kindBrightness then .command (.ledsetSectionBrightness sec v0)
  else .fail .kind

/-- The value kind and value bytes of an ALL message (R73, R74). -/
def decodeAll (kind v0 v1 v2 : Byte) : Decoded :=
  if kind = kindColor then .command (.ledsetAllColor v0 v1 v2)
  else if kind = kindEffect then .command (.ledsetAllEffect v0)
  else if kind = kindEffectSpaced then .command (.ledsetAllEffectSpaced v0)
  else if kind = kindPhase then .command (.ledsetAllPhase v0)
  else if kind = kindSpeed then .command (.ledsetAllSpeed v0)
  else if kind = kindBrightness then .command (.ledsetAllBrightness v0)
  else .fail .kind

/-- The decoder (R79): total on any bytes; it reads offsets 0 to 7 and nothing else, and touches no state. -/
def decode : List Byte → Decoded
  | b0 :: b1 :: b2 :: b3 :: b4 :: b5 :: b6 :: b7 :: _ =>
    if b0 = opLedset then
      if b1 = modeSingle then decodeSingle b2 b3 b4 b5 b6
      else if b1 = modeMultiple then decodeMultiple b2 b3 b4 b5 b6 b7
      else if b1 = modeSection then decodeSection b2 b3 b4 b5 b6
      else if b1 = modeAll then decodeAll b2 b3 b4 b5
      else .fail .mode
    else if b0 = opLedmeta then
      if b1 = subLedCount then .command .ledmetaLedcount
      else if b1 = subSectionCount then .command .ledmetaSectioncount
      else .fail .subId
    else if b0 = opLedget then .command .ledget
    else if b0 = opProtocolVersion then .foreign .protocolVersion
    else if b0 = opTeamNumber then .foreign .teamNumber
    else if b0 = opControllerState then .foreign .controllerState
    else if b0 = opEnterBootloader then .foreign .enterBootloader
    else .fail .opcode
  | _ => .short

/-- The bytes of a command up to its last decoded one (R74, R76, R77); a port operation has none (R84). -/
def encode : Instr → List Byte
  | .ledsetSingleColor idx r g b => [opLedset, modeSingle, idx, kindColor, r, g, b]
  | .ledsetSingleEffect idx eff => [opLedset, modeSingle, idx, kindEffect, eff]
  | .ledsetSingleEffectSpaced idx eff => [opLedset, modeSingle, idx, kindEffectSpaced, eff]
  | .ledsetSinglePhase idx v => [opLedset, modeSingle, idx, kindPhase, v]
  | .ledsetSingleSpeed idx v => [opLedset, modeSingle, idx, kindSpeed, v]
  | .ledsetSingleBrightness idx v => [opLedset, modeSingle, idx, kindBrightness, v]
  | .ledsetMultipleColor first last r g b => [opLedset, modeMultiple, first, last, kindColor, r, g, b]
  | .ledsetMultipleEffect first last eff => [opLedset, modeMultiple, first, last, kindEffect, eff]
  | .ledsetMultipleEffectSpaced first last eff => [opLedset, modeMultiple, first, last, kindEffectSpaced, eff]
  | .ledsetMultiplePhase first last v => [opLedset, modeMultiple, first, last, kindPhase, v]
  | .ledsetMultipleSpeed first last v => [opLedset, modeMultiple, first, last, kindSpeed, v]
  | .ledsetMultipleBrightness first last v => [opLedset, modeMultiple, first, last, kindBrightness, v]
  | .ledsetSectionColor sec r g b => [opLedset, modeSection, sec, kindColor, r, g, b]
  | .ledsetSectionEffect sec eff => [opLedset, modeSection, sec, kindEffect, eff]
  | .ledsetSectionEffectSpaced sec eff => [opLedset, modeSection, sec, kindEffectSpaced, eff]
  | .ledsetSectionPhase sec v => [opLedset, modeSection, sec, kindPhase, v]
  | .ledsetSectionSpeed sec v => [opLedset, modeSection, sec, kindSpeed, v]
  | .ledsetSectionBrightness sec v => [opLedset, modeSection, sec, kindBrightness, v]
  | .ledsetAllColor r g b => [opLedset, modeAll, kindColor, r, g, b]
  | .ledsetAllEffect eff => [opLedset, modeAll, kindEffect, eff]
  | .ledsetAllEffectSpaced eff => [opLedset, modeAll, kindEffectSpaced, eff]
  | .ledsetAllPhase v => [opLedset, modeAll, kindPhase, v]
  | .ledsetAllSpeed v => [opLedset, modeAll, kindSpeed, v]
  | .ledsetAllBrightness v => [opLedset, modeAll, kindBrightness, v]
  | .ledmetaLedcount => [opLedmeta, subLedCount]
  | .ledmetaSectioncount => [opLedmeta, subSectionCount]
  | .ledget => [opLedget]
  | .tick _ => []
  | .compose => []

/-- The assembled message of `len` bytes: the encoding, then zero bytes (R85). -/
def encodeMessage (len : Nat) (i : Instr) : List Byte :=
  encode i ++ List.replicate (len - (encode i).length) 0

/-- The message of `len` bytes whose first `nbits / 8` bytes are the number `w`, read as spec/opcode_table.json reads it:
`req[0]` in the most significant byte (R86; log 12). Every later byte is 0. -/
def tableMessage (len nbits w : Nat) : List Byte :=
  (List.range len).map fun k =>
    if k < nbits / 8 then BitVec.ofNat 8 (w >>> (8 * (nbits / 8 - 1 - k))) else 0

/-- The instruction the decoder reads from an instruction's bits, numbered as the table numbers them. -/
def decodeTableWord (nbits w : Nat) : Option Instr :=
  match decode (tableMessage 8 nbits w) with
  | .command i => some i
  | .fail _ => none
  | .foreign _ => none
  | .short => none

end Sys2Proof
end

