-- ==== Sys2Proof/Machine/State.lean ====
section
/-! DEFINITION. The machine's state as plain data (spec/10_state.md), the ports' transactions (R11), the reasons a step
can stop, and the state after reset (R210, R37). -/

namespace Sys2Proof.Machine

/-- An operation handed to the engine on a port (R10, R11). -/
inductive Op where
  /-- A command message on port `cmd`. -/
  | command (req : List Byte)
  /-- A tick count on port `tick`. -/
  | tick (t : TickCount)
  /-- A frame request on port `frame`. -/
  | compose
deriving DecidableEq, Repr

/-- What the outside can do next: an operation, or a reset event. A reset may abandon the operation then in progress (R211). -/
inductive Event where
  | op (o : Op)
  | reset (abandoned : Option Op)
deriving DecidableEq, Repr

/-- What the last operation delivered on its port. The MODEL's own record of an output (log 5): a delivery lasts for its
transaction only (R173) and the engine keeps none (R35). -/
inductive PortOut where
  /-- Nothing: after reset, or after a TICK, which has no result (R150). -/
  | nothing
  /-- A response, which stands in the command buffer (R61). `cause` labels a failure (R191); it is not on the wire. -/
  | response (cause : Option FailCause)
  /-- A frame, LED 0 first (R173). -/
  | frame (colours : List Colour)
deriving DecidableEq, Repr

/-- The reasons a step stops with a fault. No operation of the engine raises one (R190): a failing command is a next state. -/
inductive Fault where
  /-- Raised by the `cmd` port, before any decoding, on a transaction that is not `MSG_LEN` bytes long, or on any where the
  configured `MSG_LEN` is below 8. The port's payload is `MSG_LEN >= 8` bytes (R6, R11), so no such transaction exists. Safe. -/
  | messageLength
deriving DecidableEq, Repr

/-- The reasons a step is refused. -/
inductive Refusal where
  /-- An operation that has no meaning in this model yet, by its mnemonic. Raised by no arm of `exec`. Safe. -/
  | notModelled (mnemonic : String)
  /-- Raised by `step` on any operation that follows an enter-bootloader message with no reset between them: the spec
  asks a model to refuse such a run (R185, R221, D31). Safe. -/
  | afterBootloader
deriving DecidableEq, Repr

/-- The whole state. `cfg` is read-only configuration (R31, R32); `pix` and `buf` are the spec's (R20, R50); the last four
fields are the model's own (log 3, 5, 7, 8). -/
structure State where
  /-- The configuration port's constant values (R11, R31, R32). -/
  cfg : Cfg
  /-- The Pixel Records, LED 0 first (R20). -/
  pix : List Pixel
  /-- The command buffer: the request, and after the command the response in the same storage (R50, R61, R220). -/
  buf : List Byte
  /-- The last operation's delivery. -/
  port : PortOut
  /-- The operations and resets the outside has yet to hand over, next first. -/
  queue : List Event
  /-- An enter-bootloader message has been taken since the last reset (R185). -/
  inBootloader : Bool
  /-- Messages not for the engine answered so far: the index of the next free response (R184). -/
  foreignSeen : Nat
deriving DecidableEq, Repr

/-- Replace the Pixel Records. -/
def State.withPix (s : State) (ps : List Pixel) : State := { s with pix := ps }
/-- Replace the command buffer's bytes. -/
def State.withBuf (s : State) (m : List Byte) : State := { s with buf := m }
/-- Record what an operation delivers. -/
def State.withPort (s : State) (p : PortOut) : State := { s with port := p }
/-- Replace the outside's pending operations. -/
def State.withQueue (s : State) (q : List Event) : State := { s with queue := q }
/-- Record whether the firmware has left for the bootloader. -/
def State.withInBootloader (s : State) (b : Bool) : State := { s with inBootloader := b }
/-- Count an answered message that is not for the engine. -/
def State.countForeign (s : State) : State := { s with foreignSeen := s.foreignSeen + 1 }

/-- The state of an engine of configuration `c` after its power-on reset event (R210): every Pixel Record at the reset
parameters (R37); nothing delivered, nothing pending; the command buffer all zero (DESIGN CHOICE, log 6, unsafe). -/
def State.powerOn (c : Cfg) : State where
  cfg := c
  pix := List.replicate c.ledCount c.resetPixel
  buf := List.replicate c.msgLen 0
  port := .nothing
  queue := []
  inBootloader := false
  foreignSeen := 0

/-- The machine right after reset, for the spec's test configuration `CFG_T` (log 1). -/
def State.reset : State := State.powerOn Cfg.testConfig

end Sys2Proof.Machine
end

