-- ==== Sys2Proof/Machine/Colours.lean ====
section
/-! DEFINITION. Colour arithmetic: `scale255` (spec/00_scope.md R14) and `HSL2RGB` (spec/41_tick_effects.md R157). -/

namespace Sys2Proof.Machine

/-- `scale255(c, k) = (c * k) div 255` (R14): multiplied exactly, then divided with truncation. -/
def scale255 (c k : Byte) : Byte := BitVec.ofNat 8 (c.toNat * k.toNat / 255)

/-- `scale255` of a colour, channel by channel (R14). -/
def scaleColour (x : Colour) (k : Byte) : Colour := ⟨scale255 x.r k, scale255 x.g k, scale255 x.b k⟩

/-- R157's table: sextant `6p div 255`, position `6p mod 255`. -/
def hslTable (p : Byte) : Colour :=
  let f := 6 * p.toNat % 255
  let up := BitVec.ofNat 8 f
  let down := BitVec.ofNat 8 (255 - f)
  match 6 * p.toNat / 255 with
  | 0 => ⟨255, up, 0⟩
  | 1 => ⟨down, 255, 0⟩
  | 2 => ⟨0, 255, up⟩
  | 3 => ⟨0, down, 255⟩
  | 4 => ⟨up, 0, 255⟩
  | 5 => ⟨255, 0, down⟩
  | _ => ⟨255, 0, 0⟩

/-- `HSL2RGB` of a configuration (R157): R157's table, but for the phases the configuration lists. -/
def hsl2rgb (c : Cfg) (p : Byte) : Colour := (c.hslPatch.lookup p).getD (hslTable p)

end Sys2Proof.Machine
end

