-- ==== Sys2Proof/Machine/Compose.lean ====
section
/-! DEFINITION. COMPOSE and the frame (spec/42_compose_frame.md R170 to R176). -/

namespace Sys2Proof.Machine

/-- The projection of one pixel (R171): its output colour scaled by its brightness. No gamma curve (R175). -/
def project (p : Pixel) : Colour := scaleColour p.out p.brightness

/-- `COMPOSE` (R170): delivers the frame and changes no state (R172). -/
def execCompose (s : State) : Host.Outcome State Fault Refusal :=
  .next (s.withPort (.frame (s.pix.map project)))

end Sys2Proof.Machine
end

