-- ==== Sys2Proof/Machine/Flags.lean ====
section
/-! DEFINITION. The block stores no flags and no condition codes (spec/10_state.md R30). What an instruction set keeps in
flags is here one Boolean, the `success` of a fill, consumed at once to form the response (R30, R114, R192). -/

namespace Sys2Proof.Machine

/-- The `success` result of a command: true exactly when no failure was raised (R114). -/
def success (cause : Option FailCause) : Bool := cause.isNone

end Sys2Proof.Machine
end

