-- ==== Sys2Proof/Machine/Operands.lean ====
section
/-! DEFINITION. The operand forms of LEDSET: the four selectors (R101 to R104), the validation of values (R105) and the
six attributes (R106 to R111) of spec/40_ledset_fill.md. -/

namespace Sys2Proof

/-- The effect with selector id `eff` (R8); none at or above `EFFECT_COUNT`. -/
def Effect.ofByte (eff : Byte) : Option Effect :=
  if eff = 0 then some .static
  else if eff = 1 then some .breatheUp
  else if eff = 2 then some .breatheDown
  else if eff = 3 then some .colorCycle
  else none

/-- The selector id of an effect (R8). -/
def Effect.toByte : Effect → Byte
  | .static => 0
  | .breatheUp => 1
  | .breatheDown => 2
  | .colorCycle => 3

end Sys2Proof

namespace Sys2Proof.Machine

/-- How a message names its target LEDs (R72, R79). -/
inductive Selector where
  | single (idx : Byte)
  | range (first last : Byte)
  | ofSection (sec : Byte)
  | all
deriving DecidableEq, Repr

/-- What a message writes, as it came (R73, R79). -/
inductive Value where
  | color (r g b : Byte)
  | effect (eff : Byte)
  | effectSpaced (eff : Byte)
  | phase (v : Byte)
  | speed (v : Byte)
  | brightness (v : Byte)
deriving DecidableEq, Repr

/-- What a valid message writes: a `Value` whose effect id has been looked up (R105). -/
inductive Attr where
  | color (c : Colour)
  | effect (e : Effect)
  | effectSpaced (e : Effect)
  | phase (v : Byte)
  | speed (v : Byte)
  | brightness (v : Byte)
deriving DecidableEq, Repr

/-- The inclusive LED range a selector names, or why it names none (R101 to R104). -/
def resolve (c : Cfg) : Selector → Except FailCause (Nat × Nat)
  | .single idx => if c.ledCount ≤ idx.toNat then .error .index else .ok (idx.toNat, idx.toNat)
  | .range first last =>
    if c.ledCount ≤ first.toNat ∨ c.ledCount ≤ last.toNat then .error .index
    else if last.toNat < first.toNat then .error .range
    else .ok (first.toNat, last.toNat)
  | .ofSection sec =>
    match c.sections[sec.toNat]? with
    | none => .error .sectionId
    | some x => .ok (x.first.toNat, x.last.toNat)
  | .all => .ok (0, c.ledCount - 1)

/-- The checks on a value (R105): only an effect id can be wrong. -/
def validate : Value → Except FailCause Attr
  | .color r g b => .ok (.color ⟨r, g, b⟩)
  | .effect eff =>
    match Effect.ofByte eff with
    | none => .error .effect
    | some e => .ok (.effect e)
  | .effectSpaced eff =>
    match Effect.ofByte eff with
    | none => .error .effect
    | some e => .ok (.effectSpaced e)
  | .phase v => .ok (.phase v)
  | .speed v => .ok (.speed v)
  | .brightness v => .ok (.brightness v)

/-- The spread phase of LED `i` in the range `a..b` (R108): multiply, then divide by the number of LEDs, truncating. -/
def spread (i a b : Nat) : Byte := BitVec.ofNat 8 ((i - a) * 255 / (b - a + 1))

/-- `apply(val, i, s, e)` on the record of LED `i` (R106 to R111), the resolved range being `a..b`. -/
def Attr.apply (i a b : Nat) (p : Pixel) : Attr → Pixel
  | .color c => { p with base := c }
  | .effect e => { p with effect := e, phase := 0 }
  | .effectSpaced e => { p with effect := e, phase := spread i a b }
  | .phase v => { p with phase := v }
  | .speed v => { p with speed := v }
  | .brightness v => { p with brightness := v }

end Sys2Proof.Machine
end

