-- ==== Sys2Proof/Machine/Ops.lean ====
section
/-! DEFINITION. The named operations the meanings share: presenting a message, answering it, failing (the block's one
exception, R192), filling a range (R100), answering a message that is not for the engine (R184, R185), and the reset event
(R210). -/

namespace Sys2Proof.Machine

/-- The error sentinel (R71, R192). -/
def errorSentinel : Byte := 0xFF

/-- The record of LED `i`, if there is an LED `i` (R27). -/
def State.led (s : State) (i : Nat) : Option Pixel := s.pix[i]?

/-- The response to `req` (R112, R192): the request itself, with byte 0 replaced by the sentinel unless the command succeeded. -/
def responseTo (req : List Byte) (cause : Option FailCause) : List Byte :=
  if success cause then req else req.set 0 errorSentinel

/-- End a command with this result: its response takes the request's place in the command buffer. -/
def State.respond (s : State) (cause : Option FailCause) : State :=
  (s.withBuf (responseTo s.buf cause)).withPort (.response cause)

/-- `raise Fail(cause)` (R15, R192): THE exception of this block. It writes no Pixel Record, saves nothing, changes no mode
and goes nowhere; the operation ends and the engine is ready for the next one (R195: there is nothing to return from). -/
def State.raise (s : State) (cause : FailCause) : State := s.respond (some cause)

/-- A command ends well, with the buffer as it stands (`rsp <- req` where nothing was written over it, R112). -/
def State.complete (s : State) : State := s.respond none

/-- Apply an attribute to every LED of `a..b`, both included (R100, R115). -/
def State.fillRange (s : State) (a b : Nat) (x : Attr) : State :=
  s.withPix (s.pix.mapIdx fun i p => if a ≤ i ∧ i ≤ b then x.apply i a b p else p)

/-- `exec_LedSet(sel, val)` (R100): resolve, validate (in R193's order), and only then write; every check comes before the
first write (R105). -/
def State.ledSet (s : State) (sel : Selector) (val : Value) : State :=
  match resolve s.cfg sel with
  | .error cause => s.raise cause
  | .ok (a, b) =>
    match validate val with
    | .error cause => s.raise cause
    | .ok x => (s.fillRange a b x).complete

/-- Reply `v` in byte 1, over the sub-id the command was selected by (R61, R180, R181), and end well. -/
def State.replyByte (s : State) (v : Byte) : State := (s.withBuf (s.buf.set 1 v)).complete

/-- The response to a message that is not for the engine: `MSG_LEN` bytes the spec does not specify (R184, R185; log 7). -/
def foreignBytes (event : Nat) (req : List Byte) : List Byte :=
  (List.range req.length).map (Config.foreignResponse event req)

/-- The firmware leaves for the bootloader (R185). -/
def isEnterBootloader : Foreign → Bool
  | .protocolVersion => false
  | .teamNumber => false
  | .controllerState => false
  | .enterBootloader => true

/-- A message the dispatcher handles without the engine: no engine state changes and the response is free (R184); after
enter-bootloader nothing is specified until a reset (R185). -/
def State.answerForeign (s : State) (f : Foreign) : State :=
  (((s.withBuf (foreignBytes s.foreignSeen s.buf)).withPort (.response none)).countForeign).withInBootloader
    (s.inBootloader || isEnterBootloader f)

/-- The reset event (R210): every field of every Pixel Record takes its reset value; the configuration is as before. An
operation in progress is abandoned: whatever it was, nothing is delivered and the state is the reset state (R211). What
the outside has yet to send stays pending (log 3), and the counter of free responses goes on (log 7). -/
def State.resetEvent (s : State) : State :=
  ((((s.withPix (List.replicate s.cfg.ledCount s.cfg.resetPixel)).withBuf (List.replicate s.cfg.msgLen 0)).withPort
    .nothing).withInBootloader false)

/-- The `cmd` port accepts this message: its length is `MSG_LEN` (R11, R70). -/
def State.acceptsMessage (s : State) (req : List Byte) : Bool := req.length == s.cfg.msgLen

end Sys2Proof.Machine
end

