-- ==== Sys2Proof/Machine/LedsetAll.lean ====
section
/-! DEFINITION. The meanings of the six LEDSET.ALL forms (spec/40_ledset_fill.md R134 to R139): the selector of R104,
one attribute each. -/

namespace Sys2Proof.Machine

/-- `LEDSET.ALL.COLOR` (R134; attribute R106). -/
def execLedsetAllColor (r g b : Byte) (s : State) : Host.Outcome State Fault Refusal :=
  .next (s.ledSet .all (.color r g b))

/-- `LEDSET.ALL.EFFECT` (R135; attribute R107). -/
def execLedsetAllEffect (eff : Byte) (s : State) : Host.Outcome State Fault Refusal :=
  .next (s.ledSet .all (.effect eff))

/-- `LEDSET.ALL.EFFECT_SPACED` (R136; attribute R108). -/
def execLedsetAllEffectSpaced (eff : Byte) (s : State) : Host.Outcome State Fault Refusal :=
  .next (s.ledSet .all (.effectSpaced eff))

/-- `LEDSET.ALL.PHASE` (R137; attribute R109). -/
def execLedsetAllPhase (v : Byte) (s : State) : Host.Outcome State Fault Refusal :=
  .next (s.ledSet .all (.phase v))

/-- `LEDSET.ALL.SPEED` (R138; attribute R110). -/
def execLedsetAllSpeed (v : Byte) (s : State) : Host.Outcome State Fault Refusal :=
  .next (s.ledSet .all (.speed v))

/-- `LEDSET.ALL.BRIGHTNESS` (R139; attribute R111). -/
def execLedsetAllBrightness (v : Byte) (s : State) : Host.Outcome State Fault Refusal :=
  .next (s.ledSet .all (.brightness v))

end Sys2Proof.Machine
end

