-- ==== Sys2Proof/Machine/LedsetMultiple.lean ====
section
/-! DEFINITION. The meanings of the six LEDSET.MULTIPLE forms (spec/40_ledset_fill.md R122 to R127): the selector of R102,
one attribute each. -/

namespace Sys2Proof.Machine

/-- `LEDSET.MULTIPLE.COLOR` (R122; attribute R106). -/
def execLedsetMultipleColor (first last r g b : Byte) (s : State) : Host.Outcome State Fault Refusal :=
  .next (s.ledSet (.range first last) (.color r g b))

/-- `LEDSET.MULTIPLE.EFFECT` (R123; attribute R107). -/
def execLedsetMultipleEffect (first last eff : Byte) (s : State) : Host.Outcome State Fault Refusal :=
  .next (s.ledSet (.range first last) (.effect eff))

/-- `LEDSET.MULTIPLE.EFFECT_SPACED` (R124; attribute R108). -/
def execLedsetMultipleEffectSpaced (first last eff : Byte) (s : State) : Host.Outcome State Fault Refusal :=
  .next (s.ledSet (.range first last) (.effectSpaced eff))

/-- `LEDSET.MULTIPLE.PHASE` (R125; attribute R109). -/
def execLedsetMultiplePhase (first last v : Byte) (s : State) : Host.Outcome State Fault Refusal :=
  .next (s.ledSet (.range first last) (.phase v))

/-- `LEDSET.MULTIPLE.SPEED` (R126; attribute R110). -/
def execLedsetMultipleSpeed (first last v : Byte) (s : State) : Host.Outcome State Fault Refusal :=
  .next (s.ledSet (.range first last) (.speed v))

/-- `LEDSET.MULTIPLE.BRIGHTNESS` (R127; attribute R111). -/
def execLedsetMultipleBrightness (first last v : Byte) (s : State) : Host.Outcome State Fault Refusal :=
  .next (s.ledSet (.range first last) (.brightness v))

end Sys2Proof.Machine
end

