-- ==== Sys2Proof/Machine/LedsetSection.lean ====
section
/-! DEFINITION. The meanings of the six LEDSET.SECTION forms (spec/40_ledset_fill.md R128 to R133): the selector of R103,
one attribute each. -/

namespace Sys2Proof.Machine

/-- `LEDSET.SECTION.COLOR` (R128; attribute R106). -/
def execLedsetSectionColor (sec r g b : Byte) (s : State) : Host.Outcome State Fault Refusal :=
  .next (s.ledSet (.ofSection sec) (.color r g b))

/-- `LEDSET.SECTION.EFFECT` (R129; attribute R107). -/
def execLedsetSectionEffect (sec eff : Byte) (s : State) : Host.Outcome State Fault Refusal :=
  .next (s.ledSet (.ofSection sec) (.effect eff))

/-- `LEDSET.SECTION.EFFECT_SPACED` (R130; attribute R108). -/
def execLedsetSectionEffectSpaced (sec eff : Byte) (s : State) : Host.Outcome State Fault Refusal :=
  .next (s.ledSet (.ofSection sec) (.effectSpaced eff))

/-- `LEDSET.SECTION.PHASE` (R131; attribute R109). -/
def execLedsetSectionPhase (sec v : Byte) (s : State) : Host.Outcome State Fault Refusal :=
  .next (s.ledSet (.ofSection sec) (.phase v))

/-- `LEDSET.SECTION.SPEED` (R132; attribute R110). -/
def execLedsetSectionSpeed (sec v : Byte) (s : State) : Host.Outcome State Fault Refusal :=
  .next (s.ledSet (.ofSection sec) (.speed v))

/-- `LEDSET.SECTION.BRIGHTNESS` (R133; attribute R111). -/
def execLedsetSectionBrightness (sec v : Byte) (s : State) : Host.Outcome State Fault Refusal :=
  .next (s.ledSet (.ofSection sec) (.brightness v))

end Sys2Proof.Machine
end

