-- ==== Sys2Proof/Machine/LedsetSingle.lean ====
section
/-! DEFINITION. The meanings of the six LEDSET.SINGLE forms (spec/40_ledset_fill.md R116 to R121): the selector of R101,
one attribute each. -/

namespace Sys2Proof.Machine

/-- `LEDSET.SINGLE.COLOR` (R116; attribute R106). -/
def execLedsetSingleColor (idx r g b : Byte) (s : State) : Host.Outcome State Fault Refusal :=
  .next (s.ledSet (.single idx) (.color r g b))

/-- `LEDSET.SINGLE.EFFECT` (R117; attribute R107). -/
def execLedsetSingleEffect (idx eff : Byte) (s : State) : Host.Outcome State Fault Refusal :=
  .next (s.ledSet (.single idx) (.effect eff))

/-- `LEDSET.SINGLE.EFFECT_SPACED` (R118; attribute R108). -/
def execLedsetSingleEffectSpaced (idx eff : Byte) (s : State) : Host.Outcome State Fault Refusal :=
  .next (s.ledSet (.single idx) (.effectSpaced eff))

/-- `LEDSET.SINGLE.PHASE` (R119; attribute R109). -/
def execLedsetSinglePhase (idx v : Byte) (s : State) : Host.Outcome State Fault Refusal :=
  .next (s.ledSet (.single idx) (.phase v))

/-- `LEDSET.SINGLE.SPEED` (R120; attribute R110). -/
def execLedsetSingleSpeed (idx v : Byte) (s : State) : Host.Outcome State Fault Refusal :=
  .next (s.ledSet (.single idx) (.speed v))

/-- `LEDSET.SINGLE.BRIGHTNESS` (R121; attribute R111). -/
def execLedsetSingleBrightness (idx v : Byte) (s : State) : Host.Outcome State Fault Refusal :=
  .next (s.ledSet (.single idx) (.brightness v))

end Sys2Proof.Machine
end

