-- ==== Sys2Proof/Machine/Query.lean ====
section
/-! DEFINITION. The queries and the reserved command (spec/43_queries_reserved.md R180 to R183). -/

namespace Sys2Proof.Machine

/-- `LEDMETA.LEDCOUNT` (R180). -/
def execLedmetaLedcount (s : State) : Host.Outcome State Fault Refusal :=
  .next (s.replyByte (BitVec.ofNat 8 s.cfg.ledCount))

/-- `LEDMETA.SECTIONCOUNT` (R181). -/
def execLedmetaSectioncount (s : State) : Host.Outcome State Fault Refusal :=
  .next (s.replyByte (BitVec.ofNat 8 s.cfg.sectionCount))

/-- `LEDGET` (R183): reserved, a no-op that returns its request. -/
def execLedget (s : State) : Host.Outcome State Fault Refusal :=
  .next s.complete

end Sys2Proof.Machine
end

