-- ==== Sys2Proof/Machine/Tick.lean ====
section
/-! DEFINITION. TICK and the four effects (spec/41_tick_effects.md R150 to R163). -/

namespace Sys2Proof.Machine

/-- `effect_fn(e, base, p)` (R153 to R156), matched exhaustively (R162). -/
def effectFn (c : Cfg) (e : Effect) (base : Colour) (p : Byte) : Colour :=
  match e with
  | .static => base
  | .breatheUp => scaleColour base p
  | .breatheDown => scaleColour base (255 - p)
  | .colorCycle => hsl2rgb c p

/-- `advance(speed, t)` (R152): the speed divides the whole of `t`; a speed of 0 never advances and is never divided by (R159). -/
def advances (speed : Byte) (t : TickCount) : Bool := speed ≠ 0 && t.toNat % speed.toNat == 0

/-- The envelope counter counts an advance of a breathing-up pixel from 255 to 0, and nothing else (R158). -/
def nextEnv (p : Pixel) : Byte := if p.effect = .breatheUp ∧ p.phase = 255 then p.env + 1 else p.env

/-- `tick_pixel` (R151): the colour comes from the phase as the TICK found it; the phase advances afterwards. -/
def tickPixel (c : Cfg) (t : TickCount) (p : Pixel) : Pixel :=
  let q := { p with out := effectFn c p.effect p.base p.phase }
  if advances p.speed t then { q with phase := p.phase + 1, env := nextEnv p } else q

/-- `TICK t` (R150): every pixel's step; no result, no failure (R163). -/
def execTick (t : TickCount) (s : State) : Host.Outcome State Fault Refusal :=
  .next ((s.withPix (s.pix.map (tickPixel s.cfg t))).withPort .nothing)

end Sys2Proof.Machine
end

