-- ==== Sys2Proof/Machine/Dispatch.lean ====
section
/-! DEFINITION. One arm per operation (spec/00_scope.md R9): each is one direct call of that operation's meaning. -/

namespace Sys2Proof.Machine

def exec (i : Instr) (s : State) : Host.Outcome State Fault Refusal :=
  match i with
  -- LEDSET.SINGLE
  | .ledsetSingleColor idx r g b => Sys2Proof.Machine.execLedsetSingleColor idx r g b s
  | .ledsetSingleEffect idx eff => Sys2Proof.Machine.execLedsetSingleEffect idx eff s
  | .ledsetSingleEffectSpaced idx eff => Sys2Proof.Machine.execLedsetSingleEffectSpaced idx eff s
  | .ledsetSinglePhase idx v => Sys2Proof.Machine.execLedsetSinglePhase idx v s
  | .ledsetSingleSpeed idx v => Sys2Proof.Machine.execLedsetSingleSpeed idx v s
  | .ledsetSingleBrightness idx v => Sys2Proof.Machine.execLedsetSingleBrightness idx v s
  -- LEDSET.MULTIPLE
  | .ledsetMultipleColor first last r g b => Sys2Proof.Machine.execLedsetMultipleColor first last r g b s
  | .ledsetMultipleEffect first last eff => Sys2Proof.Machine.execLedsetMultipleEffect first last eff s
  | .ledsetMultipleEffectSpaced first last eff => Sys2Proof.Machine.execLedsetMultipleEffectSpaced first last eff s
  | .ledsetMultiplePhase first last v => Sys2Proof.Machine.execLedsetMultiplePhase first last v s
  | .ledsetMultipleSpeed first last v => Sys2Proof.Machine.execLedsetMultipleSpeed first last v s
  | .ledsetMultipleBrightness first last v => Sys2Proof.Machine.execLedsetMultipleBrightness first last v s
  -- LEDSET.SECTION
  | .ledsetSectionColor sec r g b => Sys2Proof.Machine.execLedsetSectionColor sec r g b s
  | .ledsetSectionEffect sec eff => Sys2Proof.Machine.execLedsetSectionEffect sec eff s
  | .ledsetSectionEffectSpaced sec eff => Sys2Proof.Machine.execLedsetSectionEffectSpaced sec eff s
  | .ledsetSectionPhase sec v => Sys2Proof.Machine.execLedsetSectionPhase sec v s
  | .ledsetSectionSpeed sec v => Sys2Proof.Machine.execLedsetSectionSpeed sec v s
  | .ledsetSectionBrightness sec v => Sys2Proof.Machine.execLedsetSectionBrightness sec v s
  -- LEDSET.ALL
  | .ledsetAllColor r g b => Sys2Proof.Machine.execLedsetAllColor r g b s
  | .ledsetAllEffect eff => Sys2Proof.Machine.execLedsetAllEffect eff s
  | .ledsetAllEffectSpaced eff => Sys2Proof.Machine.execLedsetAllEffectSpaced eff s
  | .ledsetAllPhase v => Sys2Proof.Machine.execLedsetAllPhase v s
  | .ledsetAllSpeed v => Sys2Proof.Machine.execLedsetAllSpeed v s
  | .ledsetAllBrightness v => Sys2Proof.Machine.execLedsetAllBrightness v s
  -- queries and the reserved command
  | .ledmetaLedcount => Sys2Proof.Machine.execLedmetaLedcount s
  | .ledmetaSectioncount => Sys2Proof.Machine.execLedmetaSectioncount s
  | .ledget => Sys2Proof.Machine.execLedget s
  -- port operations
  | .tick t => Sys2Proof.Machine.execTick t s
  | .compose => Sys2Proof.Machine.execCompose s

end Sys2Proof.Machine
end

