-- ==== Sys2Proof/Machine/Run.lean ====
section
/-! DEFINITION. Running one transaction the outside hands over (spec/00_scope.md R10, R11): commands, ticks, frame requests
and reset events. -/

namespace Sys2Proof.Machine

/-- A command message (R10): it is put into the command buffer, decoded (R79), and executed, failed (R192) or left to the
dispatcher (R184). -/
def runCommand (req : List Byte) (s : State) : Host.Outcome State Fault Refusal :=
  if s.acceptsMessage req then
    match decode req with
    | .command i => exec i (s.withBuf req)
    | .fail cause => .next ((s.withBuf req).raise cause)
    | .foreign f => .next ((s.withBuf req).answerForeign f)
    | .short => .fault .messageLength
  else .fault .messageLength

/-- One operation (R10); between an enter-bootloader message and a reset it is refused (R185, R221). -/
def runOp (o : Op) (s : State) : Host.Outcome State Fault Refusal :=
  if s.inBootloader then .refused .afterBootloader
  else
    match o with
    | .command req => runCommand req s
    | .tick t => exec (.tick t) s
    | .compose => exec .compose s

/-- One event: an operation or a reset (R210, R211). -/
def runEvent (e : Event) (s : State) : Host.Outcome State Fault Refusal :=
  match e with
  | .op o => runOp o s
  | .reset _ => .next s.resetEvent

end Sys2Proof.Machine
end

