-- ==== Sys2Proof/Machine/Step.lean ====
section
/-! DEFINITION. One step: the next transaction the outside hands over (spec/00_scope.md R10, R11), and the host's
`withFetchWord`. There is no program counter and no stored program (R12, R29): the "fetch" is the head of the queue. -/

namespace Sys2Proof.Machine

/-- One step: take the next event and run it. With none pending the engine idles: nothing else acts on it (R10). -/
def step (s : State) : Host.Outcome State Fault Refusal :=
  match s.queue with
  | [] => .next s
  | e :: q => runEvent e (s.withQueue q)

/-- The machine with the message of `tableMessage` presented next on its `cmd` port (log 4). -/
def State.withFetchWord (s : State) (nbits w : Nat) : State :=
  s.withQueue (.op (.command (tableMessage s.cfg.msgLen nbits w)) :: s.queue)

end Sys2Proof.Machine
end

