-- ==== Sys2Proof/Safety.lean ====
section
/-! DEFINITION. The terms the statements use: the legal states (spec/10_state.md R36), what a successful and a failed
command leave, sequences of operations, and agreement of states up to what no interface shows. -/

namespace Sys2Proof.Machine

/-- A legal state: the configuration is in its ranges (R4 to R6), there is one Pixel Record per LED (R20), and the command
buffer is one message long (R70). That every byte field is `0..255` and every effect below 4 (R36) is in the types. -/
abbrev State.Wf (s : State) : Prop :=
  s.cfg.Wf ∧ s.pix.length = s.cfg.ledCount ∧ s.buf.length = s.cfg.msgLen

/-- Everything but the Pixel Records, the command buffer and the delivery is the same. -/
def SameSurroundings (s t : State) : Prop :=
  t.cfg = s.cfg ∧ t.queue = s.queue ∧ t.inBootloader = s.inBootloader ∧ t.foreignSeen = s.foreignSeen

/-- What a successful fill leaves: the LEDs `a..b` (both included) hold what `f` gives, every other LED is as before, the
response is the request (R112), and everything else is as before. -/
def FilledBy (s t : State) (a b : Nat) (f : Nat → Pixel → Pixel) : Prop :=
  (∀ i, t.led i = if a ≤ i ∧ i ≤ b then (s.led i).map (f i) else s.led i) ∧
    t.buf = s.buf ∧ t.port = .response none ∧ SameSurroundings s t

/-- What a failed command leaves (R192): every Pixel Record as before, the response equal to the request but for the
sentinel in byte 0, and everything else as before. -/
def FailedWith (s t : State) (cause : FailCause) : Prop :=
  t.pix = s.pix ∧
    (∀ k, t.buf[k]? = if k = 0 ∧ 0 < s.buf.length then some 0xFF else s.buf[k]?) ∧
    t.port = .response (some cause) ∧ SameSurroundings s t

/-- A sequence of operations, each on the state the one before it left (R59); it ends at the first stop. -/
def execAll : List Instr → State → Host.Outcome State Fault Refusal
  | [], s => .next s
  | i :: is, s =>
    match exec i s with
    | .next t => execAll is t
    | .fault r => .fault r
    | .refused r => .refused r

/-- `n` TICKs whose counts are `t0, t0 + 1, …` (R152, R218). -/
def execTicks (t0 n : Nat) (s : State) : Host.Outcome State Fault Refusal :=
  execAll ((List.range n).map fun k => .tick (BitVec.ofNat 32 (t0 + k))) s

/-- A Pixel Record without its envelope counter, which nothing reads (R28). -/
def Pixel.visible (p : Pixel) : Pixel := { p with env := 0 }

/-- The two states differ at most in envelope counters (R28). -/
def SameButEnv (s t : State) : Prop :=
  s.pix.map Pixel.visible = t.pix.map Pixel.visible ∧ t.buf = s.buf ∧ t.port = s.port ∧ SameSurroundings s t

/-- It is an LEDSET form of kind COLOR. -/
def isColor : Instr → Bool
  | .ledsetSingleColor .. | .ledsetMultipleColor .. | .ledsetSectionColor .. | .ledsetAllColor .. => true
  | _ => false

/-- It is an LEDSET form of kind EFFECT or EFFECT_SPACED. -/
def isEffect : Instr → Bool
  | .ledsetSingleEffect .. | .ledsetMultipleEffect .. | .ledsetSectionEffect .. | .ledsetAllEffect .. => true
  | .ledsetSingleEffectSpaced .. | .ledsetMultipleEffectSpaced .. | .ledsetSectionEffectSpaced ..
  | .ledsetAllEffectSpaced .. => true
  | _ => false

/-- It is an LEDSET form of kind PHASE. -/
def isPhase : Instr → Bool
  | .ledsetSinglePhase .. | .ledsetMultiplePhase .. | .ledsetSectionPhase .. | .ledsetAllPhase .. => true
  | _ => false

/-- It is an LEDSET form of kind SPEED. -/
def isSpeed : Instr → Bool
  | .ledsetSingleSpeed .. | .ledsetMultipleSpeed .. | .ledsetSectionSpeed .. | .ledsetAllSpeed .. => true
  | _ => false

/-- It is an LEDSET form of kind BRIGHTNESS. -/
def isBrightness : Instr → Bool
  | .ledsetSingleBrightness .. | .ledsetMultipleBrightness .. | .ledsetSectionBrightness ..
  | .ledsetAllBrightness .. => true
  | _ => false

/-- It is an LEDSET form. -/
def isLedset (i : Instr) : Bool := isColor i || isEffect i || isPhase i || isSpeed i || isBrightness i

/-- The LEDs an LEDSET form addresses under the configuration `c` (R101 to R104), none where its selector names none; and
none for an operation that is no LEDSET. -/
def targetRange (c : Cfg) : Instr → Option (Nat × Nat)
  | .ledsetSingleColor idx _ _ _ => if idx.toNat < c.ledCount then some (idx.toNat, idx.toNat) else none
  | .ledsetSingleEffect idx _ => if idx.toNat < c.ledCount then some (idx.toNat, idx.toNat) else none
  | .ledsetSingleEffectSpaced idx _ => if idx.toNat < c.ledCount then some (idx.toNat, idx.toNat) else none
  | .ledsetSinglePhase idx _ => if idx.toNat < c.ledCount then some (idx.toNat, idx.toNat) else none
  | .ledsetSingleSpeed idx _ => if idx.toNat < c.ledCount then some (idx.toNat, idx.toNat) else none
  | .ledsetSingleBrightness idx _ => if idx.toNat < c.ledCount then some (idx.toNat, idx.toNat) else none
  | .ledsetMultipleColor first last _ _ _ =>
    if first.toNat ≤ last.toNat ∧ last.toNat < c.ledCount then some (first.toNat, last.toNat) else none
  | .ledsetMultipleEffect first last _ =>
    if first.toNat ≤ last.toNat ∧ last.toNat < c.ledCount then some (first.toNat, last.toNat) else none
  | .ledsetMultipleEffectSpaced first last _ =>
    if first.toNat ≤ last.toNat ∧ last.toNat < c.ledCount then some (first.toNat, last.toNat) else none
  | .ledsetMultiplePhase first last _ =>
    if first.toNat ≤ last.toNat ∧ last.toNat < c.ledCount then some (first.toNat, last.toNat) else none
  | .ledsetMultipleSpeed first last _ =>
    if first.toNat ≤ last.toNat ∧ last.toNat < c.ledCount then some (first.toNat, last.toNat) else none
  | .ledsetMultipleBrightness first last _ =>
    if first.toNat ≤ last.toNat ∧ last.toNat < c.ledCount then some (first.toNat, last.toNat) else none
  | .ledsetSectionColor sec _ _ _ => c.sections[sec.toNat]?.map fun x => (x.first.toNat, x.last.toNat)
  | .ledsetSectionEffect sec _ => c.sections[sec.toNat]?.map fun x => (x.first.toNat, x.last.toNat)
  | .ledsetSectionEffectSpaced sec _ => c.sections[sec.toNat]?.map fun x => (x.first.toNat, x.last.toNat)
  | .ledsetSectionPhase sec _ => c.sections[sec.toNat]?.map fun x => (x.first.toNat, x.last.toNat)
  | .ledsetSectionSpeed sec _ => c.sections[sec.toNat]?.map fun x => (x.first.toNat, x.last.toNat)
  | .ledsetSectionBrightness sec _ => c.sections[sec.toNat]?.map fun x => (x.first.toNat, x.last.toNat)
  | .ledsetAllColor _ _ _ => some (0, c.ledCount - 1)
  | .ledsetAllEffect _ => some (0, c.ledCount - 1)
  | .ledsetAllEffectSpaced _ => some (0, c.ledCount - 1)
  | .ledsetAllPhase _ => some (0, c.ledCount - 1)
  | .ledsetAllSpeed _ => some (0, c.ledCount - 1)
  | .ledsetAllBrightness _ => some (0, c.ledCount - 1)
  | .ledmetaLedcount => none
  | .ledmetaSectioncount => none
  | .ledget => none
  | .tick _ => none
  | .compose => none

/-- It is a TICK. -/
def isTick : Instr → Bool
  | .tick _ => true
  | _ => false

end Sys2Proof.Machine
end

