-- ==== Sys2Proof/Certificates/Slice0/Obligations.lean ====
section
/-! DEFINITION. The statements for the provers, from the spec's numbered rules. A rule whose text carries a decision or
derived mark is the spec's own choice or inference: a statement that rests on one says so and names it. -/

open Sys2Proof Sys2Proof.Machine

/-- R14, whole: `scale255(c, k)` is `(c * k) div 255`, its product fits 16 bits, its result a byte, with the four
identities and the colour form. -/
def Obligations.ScaleMultipliesThenDividesExactly : Prop :=
  (∀ c k : Byte, (scale255 c k).toNat = c.toNat * k.toNat / 255 ∧ c.toNat * k.toNat ≤ 65025 ∧
    c.toNat * k.toNat / 255 ≤ 255 ∧ scale255 c 255 = c ∧ scale255 c 0 = 0 ∧ scale255 255 k = k ∧ scale255 0 k = 0) ∧
  ∀ (r g b k : Byte), scaleColour ⟨r, g, b⟩ k = ⟨scale255 r k, scale255 g k, scale255 b k⟩

/-- Every command decodes from its encoding, whatever bytes follow it (R74 to R77, R79; the layout is the spec's decision D9,
the ignored tail D32). -/
def Obligations.DecodeEncodeRoundTrip : Prop :=
  ∀ (i : Instr) (tail : List Byte), i.wellFormed = true → 8 ≤ (encode i ++ tail).length →
    decode (encode i ++ tail) = .command i

/-- The converse: a message decodes to a command only if it begins with that command's encoding, so no message is read as two
(R79, R86, both marked derived). -/
def Obligations.DecodedMessageBeginsWithItsEncoding : Prop :=
  ∀ (m : List Byte) (i : Instr), decode m = .command i → i.wellFormed = true ∧ encode i <+: m

/-- Words written out from the spec's encodings (R74, R76, R77 and its examples), numbered as the opcode table numbers them
(R86; log 12), decode to what they stand for. -/
def Obligations.SpecWordsDecode : Prop :=
  decodeTableWord 64 0x060102010A141E00 = some (.ledsetSingleColor 2 10 20 30) ∧
  decodeTableWord 64 0x06020105010A141E = some (.ledsetMultipleColor 1 5 10 20 30) ∧
  decodeTableWord 64 0x0602010503010000 = some (.ledsetMultipleEffectSpaced 1 5 1) ∧
  decodeTableWord 64 0x0603010503000000 = some (.ledsetSectionSpeed 1 3) ∧
  decodeTableWord 64 0x0604064000000000 = some (.ledsetAllBrightness 64) ∧
  decodeTableWord 64 0x0401000000000000 = some .ledmetaLedcount ∧
  decodeTableWord 64 0x0402000000000000 = some .ledmetaSectioncount ∧
  decodeTableWord 64 0x05FF010203040506 = some .ledget ∧
  decodeTableWord 64 0x0605000101020300 = none

/-- The classification of every message that is no defined form (R71, R78, R79), cause by cause; the sub-id row is the spec's
decision D21, the layout D9. -/
def Obligations.UndefinedEncodingsFailByCause : Prop :=
  ∀ (b0 b1 b2 b3 b4 b5 b6 b7 : Byte) (tail : List Byte),
    let m := b0 :: b1 :: b2 :: b3 :: b4 :: b5 :: b6 :: b7 :: tail
    let badKind := fun k : Byte => k.toNat = 0 ∨ 7 ≤ k.toNat
    (decode m = .fail .opcode ↔ b0.toNat = 0 ∨ (7 ≤ b0.toNat ∧ b0.toNat ≤ 0xFD) ∨ b0.toNat = 0xFF) ∧
    (decode m = .fail .mode ↔ b0.toNat = 6 ∧ (b1.toNat = 0 ∨ 5 ≤ b1.toNat)) ∧
    (decode m = .fail .kind ↔ b0.toNat = 6 ∧
      ((b1.toNat = 1 ∧ badKind b3) ∨ (b1.toNat = 2 ∧ badKind b4) ∨ (b1.toNat = 3 ∧ badKind b3) ∨
        (b1.toNat = 4 ∧ badKind b2))) ∧
    (decode m = .fail .subId ↔ b0.toNat = 4 ∧ (b1.toNat = 0 ∨ 3 ≤ b1.toNat)) ∧
    (decode m = .foreign .protocolVersion ↔ b0.toNat = 1) ∧ (decode m = .foreign .teamNumber ↔ b0.toNat = 2) ∧
    (decode m = .foreign .controllerState ↔ b0.toNat = 3) ∧ (decode m = .foreign .enterBootloader ↔ b0.toNat = 0xFE)

/-- A step whose next transaction is a message that decodes to a well-formed command runs that command, the message standing
in the command buffer and the transaction taken off the outside's queue (R10, R79). -/
def Obligations.StepRunsDecodedCommand : Prop :=
  ∀ (s : State) (req : List Byte) (q : List Event) (i : Instr), s.queue = .op (.command req) :: q →
    s.inBootloader = false → req.length = s.cfg.msgLen → decode req = .command i → i.wellFormed = true →
    step s = exec i ((s.withQueue q).withBuf req)

/-- A step whose next transaction is a tick count or a frame request runs TICK or COMPOSE (R10, R84). -/
def Obligations.StepRunsPortOperations : Prop :=
  ∀ (s : State) (q : List Event), s.inBootloader = false →
    (∀ n, s.queue = .op (.tick n) :: q → step s = exec (.tick n) (s.withQueue q)) ∧
    (s.queue = .op .compose :: q → step s = exec .compose (s.withQueue q))

/-- A message the decoder gives a cause for is answered with the sentinel by that step, and nothing else happens (R79, R192). -/
def Obligations.UndecodableMessageFails : Prop :=
  ∀ (s : State) (req : List Byte) (q : List Event) (c : FailCause), s.queue = .op (.command req) :: q →
    s.inBootloader = false → req.length = s.cfg.msgLen → decode req = .fail c →
    ∃ t, step s = .next t ∧ FailedWith ((s.withQueue q).withBuf req) t c

/-- R186, whole: any other opcode fails with cause F_OPCODE, changes no state, and its response is the request with the
sentinel in byte 0 (so for opcode `0xFF` the request itself). -/
def Obligations.UnknownOpcodeAnswersSentinel : Prop :=
  ∀ (s : State) (b : Byte) (payload : List Byte) (q : List Event),
    s.queue = .op (.command (b :: payload)) :: q → s.inBootloader = false → 8 ≤ s.cfg.msgLen →
    (b :: payload).length = s.cfg.msgLen →
    (b.toNat = 0 ∨ (7 ≤ b.toNat ∧ b.toNat ≤ 0xFD) ∨ b.toNat = 0xFF) →
    ∃ t, step s = .next t ∧ t.pix = s.pix ∧ t.buf = 0xFF :: payload ∧ t.port = .response (some .opcode) ∧
      SameSurroundings (s.withQueue q) t ∧ (b.toNat = 0xFF → t.buf = b :: payload)

/-- R192, whole, for every cause: whenever a step ends in a failure, it ran a command, no Pixel Record changed, only byte 0 of
the response differs from the request, nothing else of the state changed, and the next transaction is up. -/
def Obligations.EveryFailureChangesNothingButByteZero : Prop :=
  ∀ (s t : State) (c : FailCause) (e : Event) (q : List Event), s.queue = e :: q → step s = .next t →
    t.port = .response (some c) →
    ∃ req, e = .op (.command req) ∧ FailedWith ((s.withQueue q).withBuf req) t c

/-- A message for the dispatcher alone completes and changes no engine state; its response has the message's length and is not
specified (R184, R185, the spec's decisions D1 and D31). The model's own choices: that such messages are counted, so that each
response has free bytes of its own (log 7), and that an enter-bootloader message is remembered (log 8). -/
def Obligations.ForeignMessageChangesNoEngineState : Prop :=
  ∀ (s : State) (req : List Byte) (q : List Event) (f : Foreign), s.queue = .op (.command req) :: q →
    s.inBootloader = false → req.length = s.cfg.msgLen → decode req = .foreign f →
    ∃ t, step s = .next t ∧ t.pix = s.pix ∧ t.cfg = s.cfg ∧ t.queue = q ∧ t.buf.length = s.cfg.msgLen ∧
      t.port = .response none ∧ t.foreignSeen = s.foreignSeen + 1 ∧
      (t.inBootloader = true ↔ f = .enterBootloader)

/-- After an enter-bootloader message every operation is refused, and a reset event ends that (R185, R221; the refusal is the
spec's decision D31, log 8). -/
def Obligations.NothingRunsAfterEnterBootloader : Prop :=
  ∀ (s : State) (req : List Byte) (e : Event) (q : List Event), s.queue = .op (.command req) :: e :: q →
    s.inBootloader = false → req.length = s.cfg.msgLen → 8 ≤ s.cfg.msgLen → req[0]? = some 0xFE →
    ∃ t, step s = .next t ∧ t.pix = s.pix ∧
      (∀ o, e = .op o → step t = .refused .afterBootloader) ∧
      (∀ ab, e = .reset ab → ∃ u, step t = .next u ∧ u.inBootloader = false ∧
        u.pix = List.replicate s.cfg.ledCount s.cfg.resetPixel)

/-- A reset event, whatever operation it abandons and whatever state it finds, gives every Pixel Record its reset values and
delivers nothing; the configuration is as before (R210, R211; the values are the spec's decision D23, held as parameters,
the abandoned operation D30; that the queue and the response counter go on is the model's choice, log 3 and 7). -/
def Obligations.ResetEventRestoresEveryField : Prop :=
  ∀ (s : State) (ab : Option Op) (q : List Event), s.queue = .reset ab :: q →
    ∃ t, step s = .next t ∧ (∀ i, t.led i = if i < s.cfg.ledCount then some s.cfg.resetPixel else none) ∧
      t.cfg = s.cfg ∧ t.port = .nothing ∧ t.queue = q ∧ t.inBootloader = false ∧ t.foreignSeen = s.foreignSeen

/-- At reset the machine's eight Pixel Records hold the defaults of R37 (the spec's decision D23, log 2); that there are eight is
the model's choice of the spec's test configuration (log 1). -/
def Obligations.ResetStateHoldsTheSpecDefaults : Prop :=
  State.reset.pix.length = 8 ∧
  ∀ i p, State.reset.led i = some p →
    p.base = ⟨0, 0, 0⟩ ∧ p.effect = .static ∧ p.phase = 0 ∧ p.speed = 1 ∧ p.brightness = 255 ∧ p.out = ⟨0, 0, 0⟩ ∧
      p.env = 0

/-- The invariant of `StepKeepsLegalStates` holds at reset (R36, marked derived; the configuration is the model's choice, log 1). -/
def Obligations.ResetStateIsLegal : Prop :=
  State.reset.Wf

/-- Every step keeps a state legal: configuration in its ranges, one record per LED, a command buffer one message long (R20,
R36, R70; R36 is marked derived). -/
def Obligations.StepKeepsLegalStates : Prop :=
  ∀ s t : State, s.Wf → step s = .next t → t.Wf

/-- No step writes a configuration register (R5, R31, R32, R210), and none but a reset adds or removes a record (R20). -/
def Obligations.ConfigurationIsReadOnly : Prop :=
  ∀ s t : State, step s = .next t → t.cfg = s.cfg ∧ (s.pix.length = s.cfg.ledCount → t.pix.length = s.pix.length)

/-- R190, whole: an operation the ports accept completes or fails, a failure is no stop and is a command's alone, and a
response is always written. -/
def Obligations.EveryAcceptedOperationCompletes : Prop :=
  ∀ (s : State) (o : Op) (q : List Event), s.queue = .op o :: q → s.inBootloader = false → 8 ≤ s.cfg.msgLen →
    (∀ req, o = .command req → req.length = s.cfg.msgLen) →
    ∃ t, step s = .next t ∧ t.queue = q ∧
      (∀ c, t.port = .response (some c) → (∃ req, o = .command req) ∧ t.pix = s.pix) ∧
      (∀ req, o = .command req → ∃ r, t.port = .response r)

/-- With nothing handed over a step changes nothing (R10: nothing else acts on the engine; the idle step is the model's, log 3). -/
def Obligations.IdleEngineKeepsItsState : Prop :=
  ∀ s : State, s.queue = [] → step s = .next s

/-- A transaction that is not `MSG_LEN` bytes long is none the command port takes (R6, R11; the fault is the model's choice, log 9). -/
def Obligations.MessageOfAnotherLengthIsNoTransaction : Prop :=
  ∀ (s : State) (req : List Byte) (q : List Event), s.queue = .op (.command req) :: q → s.inBootloader = false →
    req.length ≠ s.cfg.msgLen → step s = .fault .messageLength

/-- The COLOR forms write `base` on their range, red first, and nothing else; the response is the request (R106, R112, the spec's
decisions D10 and D19; ranges R101 to R104). -/
def Obligations.ColorFillWritesBase : Prop :=
  ∀ (s : State) (r g b : Byte),
    (∀ idx : Byte, idx.toNat < s.cfg.ledCount →
      ∃ t, exec (.ledsetSingleColor idx r g b) s = .next t ∧
        FilledBy s t idx.toNat idx.toNat (fun _ p => { p with base := ⟨r, g, b⟩ })) ∧
    (∀ first last : Byte, first.toNat ≤ last.toNat → last.toNat < s.cfg.ledCount →
      ∃ t, exec (.ledsetMultipleColor first last r g b) s = .next t ∧
        FilledBy s t first.toNat last.toNat (fun _ p => { p with base := ⟨r, g, b⟩ })) ∧
    (∀ (sec : Byte) (x : SectionRecord), s.cfg.sections[sec.toNat]? = some x →
      ∃ t, exec (.ledsetSectionColor sec r g b) s = .next t ∧
        FilledBy s t x.first.toNat x.last.toNat (fun _ p => { p with base := ⟨r, g, b⟩ })) ∧
    (∃ t, exec (.ledsetAllColor r g b) s = .next t ∧
        FilledBy s t 0 (s.cfg.ledCount - 1) (fun _ p => { p with base := ⟨r, g, b⟩ }))

/-- The EFFECT forms write `effect` and set `phase` to 0, also when the effect is the one stored, and nothing else; `env` stays
(R107, the spec's decision D18). -/
def Obligations.EffectFillWritesEffectAndClearsPhase : Prop :=
  ∀ (s : State) (e : Effect),
    (∀ idx : Byte, idx.toNat < s.cfg.ledCount →
      ∃ t, exec (.ledsetSingleEffect idx e.toByte) s = .next t ∧
        FilledBy s t idx.toNat idx.toNat (fun _ p => { p with effect := e, phase := 0 })) ∧
    (∀ first last : Byte, first.toNat ≤ last.toNat → last.toNat < s.cfg.ledCount →
      ∃ t, exec (.ledsetMultipleEffect first last e.toByte) s = .next t ∧
        FilledBy s t first.toNat last.toNat (fun _ p => { p with effect := e, phase := 0 })) ∧
    (∀ (sec : Byte) (x : SectionRecord), s.cfg.sections[sec.toNat]? = some x →
      ∃ t, exec (.ledsetSectionEffect sec e.toByte) s = .next t ∧
        FilledBy s t x.first.toNat x.last.toNat (fun _ p => { p with effect := e, phase := 0 })) ∧
    (∃ t, exec (.ledsetAllEffect e.toByte) s = .next t ∧
        FilledBy s t 0 (s.cfg.ledCount - 1) (fun _ p => { p with effect := e, phase := 0 }))

/-- The EFFECT_SPACED forms write `effect` and the phase `((i - s) * 255) div (e - s + 1)` from the resolved bounds, and nothing
else (R108, the spec's decision D12). -/
def Obligations.SpacedFillSpreadsPhase : Prop :=
  ∀ (s : State) (e : Effect),
    (∀ idx : Byte, idx.toNat < s.cfg.ledCount →
      ∃ t, exec (.ledsetSingleEffectSpaced idx e.toByte) s = .next t ∧
        FilledBy s t idx.toNat idx.toNat (fun i p =>
          { p with effect := e, phase := BitVec.ofNat 8 ((i - idx.toNat) * 255 / (idx.toNat - idx.toNat + 1)) })) ∧
    (∀ first last : Byte, first.toNat ≤ last.toNat → last.toNat < s.cfg.ledCount →
      ∃ t, exec (.ledsetMultipleEffectSpaced first last e.toByte) s = .next t ∧
        FilledBy s t first.toNat last.toNat (fun i p =>
          { p with effect := e, phase := BitVec.ofNat 8 ((i - first.toNat) * 255 / (last.toNat - first.toNat + 1)) })) ∧
    (∀ (sec : Byte) (x : SectionRecord), s.cfg.sections[sec.toNat]? = some x →
      ∃ t, exec (.ledsetSectionEffectSpaced sec e.toByte) s = .next t ∧
        FilledBy s t x.first.toNat x.last.toNat (fun i p =>
          { p with effect := e, phase := BitVec.ofNat 8 ((i - x.first.toNat) * 255 / (x.last.toNat - x.first.toNat + 1)) })) ∧
    (∃ t, exec (.ledsetAllEffectSpaced e.toByte) s = .next t ∧
        FilledBy s t 0 (s.cfg.ledCount - 1) (fun i p =>
          { p with effect := e, phase := BitVec.ofNat 8 ((i - 0) * 255 / ((s.cfg.ledCount - 1) - 0 + 1)) }))

/-- The PHASE forms replace `phase` and write nothing else (R109, the spec's decision D13). -/
def Obligations.PhaseFillReplacesPhase : Prop :=
  ∀ (s : State) (v : Byte),
    (∀ idx : Byte, idx.toNat < s.cfg.ledCount →
      ∃ t, exec (.ledsetSinglePhase idx v) s = .next t ∧
        FilledBy s t idx.toNat idx.toNat (fun _ p => { p with phase := v })) ∧
    (∀ first last : Byte, first.toNat ≤ last.toNat → last.toNat < s.cfg.ledCount →
      ∃ t, exec (.ledsetMultiplePhase first last v) s = .next t ∧
        FilledBy s t first.toNat last.toNat (fun _ p => { p with phase := v })) ∧
    (∀ (sec : Byte) (x : SectionRecord), s.cfg.sections[sec.toNat]? = some x →
      ∃ t, exec (.ledsetSectionPhase sec v) s = .next t ∧
        FilledBy s t x.first.toNat x.last.toNat (fun _ p => { p with phase := v })) ∧
    (∃ t, exec (.ledsetAllPhase v) s = .next t ∧
        FilledBy s t 0 (s.cfg.ledCount - 1) (fun _ p => { p with phase := v }))

/-- The SPEED forms write `speed`, 0 like any byte, and nothing else (R110, the spec's decision D14). -/
def Obligations.SpeedFillWritesSpeed : Prop :=
  ∀ (s : State) (v : Byte),
    (∀ idx : Byte, idx.toNat < s.cfg.ledCount →
      ∃ t, exec (.ledsetSingleSpeed idx v) s = .next t ∧
        FilledBy s t idx.toNat idx.toNat (fun _ p => { p with speed := v })) ∧
    (∀ first last : Byte, first.toNat ≤ last.toNat → last.toNat < s.cfg.ledCount →
      ∃ t, exec (.ledsetMultipleSpeed first last v) s = .next t ∧
        FilledBy s t first.toNat last.toNat (fun _ p => { p with speed := v })) ∧
    (∀ (sec : Byte) (x : SectionRecord), s.cfg.sections[sec.toNat]? = some x →
      ∃ t, exec (.ledsetSectionSpeed sec v) s = .next t ∧
        FilledBy s t x.first.toNat x.last.toNat (fun _ p => { p with speed := v })) ∧
    (∃ t, exec (.ledsetAllSpeed v) s = .next t ∧
        FilledBy s t 0 (s.cfg.ledCount - 1) (fun _ p => { p with speed := v }))

/-- The BRIGHTNESS forms write `brightness` and nothing else, and the document's test: a fill of the whole strip with 128 followed
by COMPOSE scales every LED's output by 128/255, truncating (R111, R171; ranges R101 to R104). That the response is the request
is the spec's decision D19 (R112, log 16); where the selector and the value kind `0x06` stand in the message is its decision D9
(R73, R74, log 13). -/
def Obligations.BrightnessFillWritesBrightness : Prop :=
  ∀ (s : State) (v : Byte),
    (∀ idx : Byte, idx.toNat < s.cfg.ledCount →
      ∃ t, exec (.ledsetSingleBrightness idx v) s = .next t ∧
        FilledBy s t idx.toNat idx.toNat (fun _ p => { p with brightness := v })) ∧
    (∀ first last : Byte, first.toNat ≤ last.toNat → last.toNat < s.cfg.ledCount →
      ∃ t, exec (.ledsetMultipleBrightness first last v) s = .next t ∧
        FilledBy s t first.toNat last.toNat (fun _ p => { p with brightness := v })) ∧
    (∀ (sec : Byte) (x : SectionRecord), s.cfg.sections[sec.toNat]? = some x →
      ∃ t, exec (.ledsetSectionBrightness sec v) s = .next t ∧
        FilledBy s t x.first.toNat x.last.toNat (fun _ p => { p with brightness := v })) ∧
    (∃ t, exec (.ledsetAllBrightness v) s = .next t ∧
        FilledBy s t 0 (s.cfg.ledCount - 1) (fun _ p => { p with brightness := v })) ∧
    (∀ idx first last sec : Byte, encode (.ledsetSingleBrightness idx v) = [6, 1, idx, 6, v] ∧
      encode (.ledsetMultipleBrightness first last v) = [6, 2, first, last, 6, v] ∧
      encode (.ledsetSectionBrightness sec v) = [6, 3, sec, 6, v] ∧ encode (.ledsetAllBrightness v) = [6, 4, 6, v]) ∧
    (s.Wf → ∃ t frame, execAll [.ledsetAllBrightness 128, .compose] s = .next t ∧ t.port = .frame frame ∧
      frame.length = s.cfg.ledCount ∧
      ∀ i p, s.led i = some p → ∃ c, frame[i]? = some c ∧ c.r.toNat = p.out.r.toNat * 128 / 255 ∧
        c.g.toNat = p.out.g.toNat * 128 / 255 ∧ c.b.toNat = p.out.b.toNat * 128 / 255)

/-- The spread phase is never truncated by its byte: it starts at 0, never falls along the range, and never reaches 255 (R108,
the spec's decision D12). -/
def Obligations.SpreadPhaseFitsItsByte : Prop :=
  ∀ a b i : Nat, a ≤ i → i ≤ b →
    (spread i a b).toNat = (i - a) * 255 / (b - a + 1) ∧ (spread i a b).toNat ≤ 254 ∧ (spread a a b).toNat = 0 ∧
      ∀ j, i ≤ j → j ≤ b → (spread i a b).toNat ≤ (spread j a b).toNat

/-- The four effect ids, 0 to 3 in the order of the effect table, and no other byte is one (R8, the spec's decision D7). -/
def Obligations.EffectIdsNumberTheTable : Prop :=
  Effect.static.toByte = 0 ∧ Effect.breatheUp.toByte = 1 ∧ Effect.breatheDown.toByte = 2 ∧
  Effect.colorCycle.toByte = 3 ∧ ∀ eff : Byte, eff.toNat < 4 ↔ ∃ e : Effect, e.toByte = eff

/-- A SINGLE form whose index is not below `LED_COUNT` fails with F_INDEX, whatever its value bytes; any other, an effect id being
legal, writes its attribute on that one LED and changes nothing else (R101, R106 to R111; the spread over one LED is phase 0).
The response of a success is the request by the spec's decision D19 (R112, log 16), effect ids count from 0 by D7 (log 11), and
the attributes rest on D10, D12 to D14 and D18 (log 13 and 15). An effect id of 4 or more is `EffectIdMustBeInTable`'s. -/
def Obligations.SingleIndexMustExist : Prop :=
  ∀ (s : State) (idx r g b v : Byte),
    (s.cfg.ledCount ≤ idx.toNat → ∀ eff : Byte,
      ∀ i ∈ ([.ledsetSingleColor idx r g b, .ledsetSingleEffect idx eff, .ledsetSingleEffectSpaced idx eff,
          .ledsetSinglePhase idx v, .ledsetSingleSpeed idx v, .ledsetSingleBrightness idx v] : List Instr),
        ∃ t, exec i s = .next t ∧ FailedWith s t .index) ∧
    (idx.toNat < s.cfg.ledCount → ∀ e : Effect,
      ∀ form ∈ ([(.ledsetSingleColor idx r g b, fun p => { p with base := ⟨r, g, b⟩ }),
          (.ledsetSingleEffect idx e.toByte, fun p => { p with effect := e, phase := 0 }),
          (.ledsetSingleEffectSpaced idx e.toByte, fun p => { p with effect := e, phase := 0 }),
          (.ledsetSinglePhase idx v, fun p => { p with phase := v }),
          (.ledsetSingleSpeed idx v, fun p => { p with speed := v }),
          (.ledsetSingleBrightness idx v, fun p => { p with brightness := v })] : List (Instr × (Pixel → Pixel))),
        ∃ t, exec form.1 s = .next t ∧ FilledBy s t idx.toNat idx.toNat fun _ => form.2)

/-- A MULTIPLE form fails with F_INDEX where either index is not below `LED_COUNT`, before anything else about it is looked at,
and with F_RANGE where both exist and start is above end (R102, R193, the spec's decisions D11 and D29). -/
def Obligations.MultipleRangeMustExistAndRise : Prop :=
  ∀ (s : State) (first last r g b eff v : Byte),
    ∀ i ∈ ([.ledsetMultipleColor first last r g b, .ledsetMultipleEffect first last eff, .ledsetMultipleEffectSpaced first last eff,
        .ledsetMultiplePhase first last v, .ledsetMultipleSpeed first last v, .ledsetMultipleBrightness first last v] : List Instr),
      (s.cfg.ledCount ≤ first.toNat ∨ s.cfg.ledCount ≤ last.toNat →
        ∃ t, exec i s = .next t ∧ FailedWith s t .index) ∧
      (first.toNat < s.cfg.ledCount → last.toNat < first.toNat →
        ∃ t, exec i s = .next t ∧ FailedWith s t .range)

/-- A SECTION form whose id is not below `SECTION_COUNT` fails with F_SECTION, whatever its value bytes (R103, R193, the spec's
decisions D4 and D29). -/
def Obligations.SectionIdMustExist : Prop :=
  ∀ (s : State) (sec r g b eff v : Byte),
    ∀ i ∈ ([.ledsetSectionColor sec r g b, .ledsetSectionEffect sec eff, .ledsetSectionEffectSpaced sec eff,
        .ledsetSectionPhase sec v, .ledsetSectionSpeed sec v, .ledsetSectionBrightness sec v] : List Instr),
      s.cfg.sectionCount ≤ sec.toNat → ∃ t, exec i s = .next t ∧ FailedWith s t .sectionId

/-- An EFFECT or EFFECT_SPACED form whose selector is good and whose effect id is 4 or more fails with F_EFFECT and resets no
phase (R105, R193, the spec's decisions D8 and D29). -/
def Obligations.EffectIdMustBeInTable : Prop :=
  ∀ (s : State) (idx first last sec eff : Byte), 4 ≤ eff.toNat →
    (idx.toNat < s.cfg.ledCount → ∀ i ∈ ([.ledsetSingleEffect idx eff, .ledsetSingleEffectSpaced idx eff] : List Instr),
      ∃ t, exec i s = .next t ∧ FailedWith s t .effect) ∧
    (first.toNat ≤ last.toNat → last.toNat < s.cfg.ledCount →
      ∀ i ∈ ([.ledsetMultipleEffect first last eff, .ledsetMultipleEffectSpaced first last eff] : List Instr),
        ∃ t, exec i s = .next t ∧ FailedWith s t .effect) ∧
    (sec.toNat < s.cfg.sectionCount →
      ∀ i ∈ ([.ledsetSectionEffect sec eff, .ledsetSectionEffectSpaced sec eff] : List Instr),
        ∃ t, exec i s = .next t ∧ FailedWith s t .effect) ∧
    (∀ i ∈ ([.ledsetAllEffect eff, .ledsetAllEffectSpaced eff] : List Instr),
      ∃ t, exec i s = .next t ∧ FailedWith s t .effect)

/-- A command fails exactly when one of R191's operand causes applies: its response says success if and only if its operands are in
the configuration (R105, R114, R191; ranges and ids are the spec's decisions D4, D8, D11). -/
def Obligations.CommandSucceedsIffOperandsNameSomething : Prop :=
  ∀ (i : Instr) (s : State), i.wellFormed = true →
    ∃ t, exec i s = .next t ∧ (t.port = .response none ↔ i.operandsOk s.cfg = true) ∧
      (i.operandsOk s.cfg = false → ∃ c, FailedWith s t c)

/-- R113, whole. For an LEDSET form and the bounds its selector resolves to, one assignment of some of the five attributes (or none)
to each LED index is what the form writes in EVERY state where it resolves to those bounds, whatever the rest of the
configuration and whatever the records hold; it never writes `out` or `env`, and nothing outside the bounds. Where its selector
resolves to none it writes nothing. Nor does its response read a record: states of one configuration and one request get the
same response bytes. -/
def Obligations.LedsetWritesOnlyWhatItsBytesSay : Prop :=
  ∀ i : Instr, isLedset i = true →
    (∀ a b : Nat,
      ∃ (base : Nat → Option Colour) (effect : Nat → Option Effect) (phase speed brightness : Nat → Option Byte),
        (∀ k, k < a ∨ b < k →
          base k = none ∧ effect k = none ∧ phase k = none ∧ speed k = none ∧ brightness k = none) ∧
        ∀ s : State, targetRange s.cfg i = some (a, b) → ∃ t, exec i s = .next t ∧
          ∀ k, t.led k = (s.led k).map fun p =>
            { base := (base k).getD p.base, effect := (effect k).getD p.effect, phase := (phase k).getD p.phase,
              speed := (speed k).getD p.speed, brightness := (brightness k).getD p.brightness, out := p.out, env := p.env }) ∧
    (∀ s : State, targetRange s.cfg i = none → ∃ t, exec i s = .next t ∧ t.pix = s.pix) ∧
    (∀ s s' t t' : State, s.cfg = s'.cfg → s.buf = s'.buf → exec i s = .next t → exec i s' = .next t' →
      t.buf = t'.buf)

/-- Each Pixel Record field is written by the operations the spec lists for it and by no other (R20 to R28, the field table; R22,
R24, R26, R28 carry the spec's decisions D8, D14, D15, D18). -/
def Obligations.EachFieldHasOnlyItsWriters : Prop :=
  ∀ (i : Instr) (s t : State), exec i s = .next t → ∀ (k : Nat) (p p' : Pixel), s.led k = some p → t.led k = some p' →
    (isColor i = false → p'.base = p.base) ∧ (isEffect i = false → p'.effect = p.effect) ∧
    (isEffect i = false → isPhase i = false → isTick i = false → p'.phase = p.phase) ∧
    (isSpeed i = false → p'.speed = p.speed) ∧ (isBrightness i = false → p'.brightness = p.brightness) ∧
    (isTick i = false → p'.out = p.out ∧ p'.env = p.env)

/-- A successful LEDSET executed a second time changes nothing more (R55, marked derived). -/
def Obligations.LedsetIsIdempotent : Prop :=
  ∀ (i : Instr) (s t : State), isLedset i = true → exec i s = .next t → t.port = .response none → exec i t = .next t

/-- SINGLE is MULTIPLE on its own index, SECTION is MULTIPLE on the stored bounds, ALL is MULTIPLE on the whole strip (R57, R114,
R134 to R139; R114 carries the spec's decision D1). -/
def Obligations.EveryModeIsAnExplicitRange : Prop :=
  ∀ (s : State) (r g b eff v : Byte), s.Wf →
    (∀ idx : Byte, exec (.ledsetSingleColor idx r g b) s = exec (.ledsetMultipleColor idx idx r g b) s ∧
      exec (.ledsetSingleEffect idx eff) s = exec (.ledsetMultipleEffect idx idx eff) s ∧
      exec (.ledsetSingleEffectSpaced idx eff) s = exec (.ledsetMultipleEffectSpaced idx idx eff) s ∧
      exec (.ledsetSinglePhase idx v) s = exec (.ledsetMultiplePhase idx idx v) s ∧
      exec (.ledsetSingleSpeed idx v) s = exec (.ledsetMultipleSpeed idx idx v) s ∧
      exec (.ledsetSingleBrightness idx v) s = exec (.ledsetMultipleBrightness idx idx v) s) ∧
    (∀ (sec : Byte) (x : SectionRecord), s.cfg.sections[sec.toNat]? = some x →
      exec (.ledsetSectionColor sec r g b) s = exec (.ledsetMultipleColor x.first x.last r g b) s ∧
      exec (.ledsetSectionEffect sec eff) s = exec (.ledsetMultipleEffect x.first x.last eff) s ∧
      exec (.ledsetSectionEffectSpaced sec eff) s = exec (.ledsetMultipleEffectSpaced x.first x.last eff) s ∧
      exec (.ledsetSectionPhase sec v) s = exec (.ledsetMultiplePhase x.first x.last v) s ∧
      exec (.ledsetSectionSpeed sec v) s = exec (.ledsetMultipleSpeed x.first x.last v) s ∧
      exec (.ledsetSectionBrightness sec v) s = exec (.ledsetMultipleBrightness x.first x.last v) s) ∧
    (exec (.ledsetAllColor r g b) s = exec (.ledsetMultipleColor 0 (BitVec.ofNat 8 (s.cfg.ledCount - 1)) r g b) s ∧
      exec (.ledsetAllEffect eff) s = exec (.ledsetMultipleEffect 0 (BitVec.ofNat 8 (s.cfg.ledCount - 1)) eff) s ∧
      exec (.ledsetAllEffectSpaced eff) s = exec (.ledsetMultipleEffectSpaced 0 (BitVec.ofNat 8 (s.cfg.ledCount - 1)) eff) s ∧
      exec (.ledsetAllPhase v) s = exec (.ledsetMultiplePhase 0 (BitVec.ofNat 8 (s.cfg.ledCount - 1)) v) s ∧
      exec (.ledsetAllSpeed v) s = exec (.ledsetMultipleSpeed 0 (BitVec.ofNat 8 (s.cfg.ledCount - 1)) v) s ∧
      exec (.ledsetAllBrightness v) s = exec (.ledsetMultipleBrightness 0 (BitVec.ofNat 8 (s.cfg.ledCount - 1)) v) s)

/-- LEDMETA puts its count into byte 1 of the response, over the sub-id, and changes nothing else (R180, R181, the spec's decision
D20). -/
def Obligations.CountQueriesReplyInByteOne : Prop :=
  ∀ s : State, s.Wf →
    (∃ t b, exec .ledmetaLedcount s = .next t ∧ b.toNat = s.cfg.ledCount ∧
      (∀ k, t.buf[k]? = if k = 1 then some b else s.buf[k]?) ∧ t.pix = s.pix ∧ t.port = .response none ∧
      SameSurroundings s t) ∧
    (∃ t b, exec .ledmetaSectioncount s = .next t ∧ b.toNat = s.cfg.sectionCount ∧
      (∀ k, t.buf[k]? = if k = 1 then some b else s.buf[k]?) ∧ t.pix = s.pix ∧ t.port = .response none ∧
      SameSurroundings s t)

/-- LEDGET changes nothing and returns its request (R183, the spec's decision D22). -/
def Obligations.LedgetReturnsItsRequest : Prop :=
  ∀ s : State, ∃ t, exec .ledget s = .next t ∧ t.pix = s.pix ∧ t.buf = s.buf ∧ t.port = .response none ∧
    SameSurroundings s t

/-- TICK completes in every state; of every pixel it leaves base, effect, speed and brightness, advances the phase by one modulo
256 exactly when the speed is not 0 and divides the tick count, and counts the envelope exactly when a breathing-up phase so
wraps; it adds no pixel and touches nothing else (R150 to R152, R158 to R161; the spec's decisions D14, D15, D18, D33). -/
def Obligations.TickEvolvesEveryPixel : Prop :=
  ∀ (s : State) (n : TickCount), ∃ t, exec (.tick n) s = .next t ∧ t.buf = s.buf ∧ t.port = .nothing ∧
    SameSurroundings s t ∧ (∀ i, s.led i = none → t.led i = none) ∧
    ∀ i p, s.led i = some p → ∃ p', t.led i = some p' ∧ p'.base = p.base ∧ p'.effect = p.effect ∧
      p'.speed = p.speed ∧ p'.brightness = p.brightness ∧
      p'.phase.toNat = (if p.speed.toNat ≠ 0 ∧ n.toNat % p.speed.toNat = 0 then (p.phase.toNat + 1) % 256
        else p.phase.toNat) ∧
      p'.env.toNat = (if (p.speed.toNat ≠ 0 ∧ n.toNat % p.speed.toNat = 0) ∧ p.effect = .breatheUp ∧ p.phase.toNat = 255
        then (p.env.toNat + 1) % 256 else p.env.toNat)

/-- R153, whole: under a TICK a static pixel's output is its base colour, unchanged, at every phase; its phase still advances, as that
of any other pixel with its phase and speed does. -/
def Obligations.StaticShowsItsBase : Prop :=
  ∀ (s : State) (n : TickCount) (i : Nat) (p : Pixel), s.led i = some p → p.effect = .static →
    ∃ t p', exec (.tick n) s = .next t ∧ t.led i = some p' ∧ p'.out = p.base ∧
      (p.speed.toNat ≠ 0 → n.toNat % p.speed.toNat = 0 → p'.phase.toNat = (p.phase.toNat + 1) % 256) ∧
      (∀ j q q', s.led j = some q → q.phase = p.phase → q.speed = p.speed → t.led j = some q' →
        q'.phase = p'.phase)

/-- Under a TICK a breathing-up pixel shows `(c * p) div 255` on each channel and a breathing-down pixel `(c * (255 - p)) div 255`,
p being the phase before the TICK (R151, R154, R155; the spec's decisions D15, D16). -/
def Obligations.BreathingScalesTheBase : Prop :=
  ∀ (s : State) (n : TickCount) (i : Nat) (p : Pixel), s.led i = some p →
    ∀ k : Nat, (p.effect = .breatheUp ∧ k = p.phase.toNat) ∨ (p.effect = .breatheDown ∧ k = 255 - p.phase.toNat) →
    ∃ t p', exec (.tick n) s = .next t ∧ t.led i = some p' ∧ p'.out.r.toNat = p.base.r.toNat * k / 255 ∧
      p'.out.g.toNat = p.base.g.toNat * k / 255 ∧ p'.out.b.toNat = p.base.b.toNat * k / 255

/-- Under a TICK a color-cycle pixel shows the HSL conversion of the phase it had before the TICK (R151, the spec's decision D15,
log 15), whatever its base: with `h = 6 * phase`, the chroma 255 and the second component `255 - |h mod 510 - 255|` placed by
sextant; a phase the configuration lists shows what it lists (R156, R157; the conversion is the spec's decision
D17 and its general-knowledge entry GK1, log 10). -/
def Obligations.ColorCycleSweepsTheWheel : Prop :=
  ∀ (s : State) (n : TickCount) (i : Nat) (p : Pixel), s.led i = some p → p.effect = .colorCycle →
    ∃ t p', exec (.tick n) s = .next t ∧ t.led i = some p' ∧
      (∀ col, s.cfg.hslPatch.lookup p.phase = some col → p'.out = col) ∧
      (s.cfg.hslPatch.lookup p.phase = none →
        let h := 6 * p.phase.toNat
        let x := if h % 510 ≤ 255 then h % 510 else 510 - h % 510
        (p'.out.r.toNat, p'.out.g.toNat, p'.out.b.toNat) =
          if h < 255 then (255, x, 0) else if h < 510 then (x, 255, 0) else if h < 765 then (0, 255, x)
          else if h < 1020 then (0, x, 255) else if h < 1275 then (x, 0, 255) else (255, 0, x))

/-- What a TICK leaves in a pixel depends on that pixel, the tick count and the hue function only: two states that agree on it
agree on it afterwards (R160, marked derived). -/
def Obligations.TickTreatsPixelsAlone : Prop :=
  ∀ (s s' t t' : State) (n : TickCount) (i j : Nat), s.cfg.hslPatch = s'.cfg.hslPatch → s.led i = s'.led j →
    exec (.tick n) s = .next t → exec (.tick n) s' = .next t' → t.led i = t'.led j

/-- However many TICKs come, with whatever counts, a pixel of speed 0 keeps its phase and its envelope counter, and after each
TICK shows the colour of that phase (R159, R216, the spec's decision D14). -/
def Obligations.SpeedZeroFreezesThePhase : Prop :=
  ∀ (ns : List TickCount) (s : State) (i : Nat) (p : Pixel), s.led i = some p → p.speed = 0 →
    ∃ t p', execAll (ns.map .tick) s = .next t ∧ t.led i = some p' ∧ p'.phase = p.phase ∧ p'.env = p.env ∧
      p'.speed = 0 ∧ (ns ≠ [] → p'.out = effectFn s.cfg p.effect p.base p.phase)

/-- The document's rate property, exactly: over as many TICKs as the speed divisor d says, at consecutive counts that do not wrap, a
pixel's phase advances exactly once; so with divisor 1 on every call and with 255 once in every 255 (R152, R218; the spec's
decisions D14 and D33, and its resolution C4). -/
def Obligations.ConsecutiveTicksAdvanceOncePerDivisor : Prop :=
  ∀ (s : State) (t0 i : Nat) (p : Pixel), s.led i = some p → p.speed ≠ 0 → t0 + p.speed.toNat ≤ 2 ^ 32 →
    ∃ t p', execTicks t0 p.speed.toNat s = .next t ∧ t.led i = some p' ∧
      p'.phase.toNat = (p.phase.toNat + 1) % 256

/-- No operation reads `env`: two states that differ in envelope counters only give, for every sequence of operations, the same
responses and frames, and differ in envelope counters only afterwards (R28, marked derived, and the spec's decision D18). -/
def Obligations.EnvelopeCounterIsUnobservable : Prop :=
  ∀ (is : List Instr) (s t s' : State), SameButEnv s t → execAll is s = .next s' →
    ∃ t', execAll is t = .next t' ∧ SameButEnv s' t' 

/-- R171, whole: COMPOSE completes in every state and delivers, for every pixel and channel, `(out * brightness) div 255`: the exact
product first, truncated, nothing rounded, nothing clamped. -/
def Obligations.FrameIsOutputScaledByBrightness : Prop :=
  ∀ s : State, ∃ t frame, exec .compose s = .next t ∧ t.port = .frame frame ∧ frame.length = s.pix.length ∧
    ∀ i p, s.led i = some p → ∃ c, frame[i]? = some c ∧
      c.r.toNat = p.out.r.toNat * p.brightness.toNat / 255 ∧ c.g.toNat = p.out.g.toNat * p.brightness.toNat / 255 ∧
      c.b.toNat = p.out.b.toNat * p.brightness.toNat / 255

/-- R172, whole: COMPOSE writes no Pixel Record and caches nothing; a second COMPOSE returns the same frame; the frame depends on
`out` and `brightness` alone. -/
def Obligations.ComposeIsAReadOnlyProjection : Prop :=
  ∀ s t : State, exec .compose s = .next t →
    t.pix = s.pix ∧ t.buf = s.buf ∧ SameSurroundings s t ∧
    (∃ u, exec .compose t = .next u ∧ u.port = t.port) ∧
    (∀ s' t' : State, exec .compose s' = .next t' →
      s'.pix.map (fun p => (p.out, p.brightness)) = s.pix.map (fun p => (p.out, p.brightness)) → t'.port = t.port)

/-- R213, whole: whatever operations run, if none is a TICK and none a brightness fill, COMPOSE afterwards delivers the frame it would
have delivered before them; a brightness fill shows at the next COMPOSE on every LED it addresses. -/
def Obligations.FillsShowAfterATickBrightnessAtOnce : Prop :=
  (∀ (is : List Instr) (s t u : State), (∀ i ∈ is, isTick i = false ∧ isBrightness i = false) →
    execAll (is ++ [.compose]) s = .next t → exec .compose s = .next u → t.port = u.port) ∧
  (∀ (s : State) (idx first last sec v : Byte),
    ∀ i ∈ ([.ledsetSingleBrightness idx v, .ledsetMultipleBrightness first last v, .ledsetSectionBrightness sec v,
        .ledsetAllBrightness v] : List Instr),
      ∀ a b : Nat, targetRange s.cfg i = some (a, b) →
        ∃ t frame, execAll [i, .compose] s = .next t ∧ t.port = .frame frame ∧
          ∀ k p, a ≤ k → k ≤ b → s.led k = some p → ∃ c, frame[k]? = some c ∧
            c.r.toNat = p.out.r.toNat * v.toNat / 255 ∧ c.g.toNat = p.out.g.toNat * v.toNat / 255 ∧
            c.b.toNat = p.out.b.toNat * v.toNat / 255)

/-- A step that takes no TICK and no reset event changes no pixel's output colour and no envelope counter: no command writes `out`
(R26, R28, R113; R26 and R28 carry the spec's decisions D15 and D18). -/
def Obligations.OutputChangesOnlyByTickOrReset : Prop :=
  ∀ s t : State, step s = .next t → (∀ n q, s.queue ≠ .op (.tick n) :: q) → (∀ ab q, s.queue ≠ .reset ab :: q) →
    t.pix.map (fun p => (p.out, p.env)) = s.pix.map (fun p => (p.out, p.env))

/-- After the spec's initialisation sequence the picture does not depend on what the records held: two legal states of one
configuration end with the same frame, and with Pixel Records equal but for envelope counters (R212, marked
derived; its steps in the printed order, without the optional PHASE fills, at any speed). -/
def Obligations.InitialisationFixesThePicture : Prop :=
  ∀ (s s' : State) (r g b v w : Byte) (n : TickCount) (setEffect : Instr) (e : Effect), s.Wf → s'.Wf → s.cfg = s'.cfg →
    setEffect = .ledsetAllEffect e.toByte ∨ setEffect = .ledsetAllEffectSpaced e.toByte →
    ∃ t t' frame,
      execAll [.ledsetAllColor r g b, setEffect, .ledsetAllSpeed v, .ledsetAllBrightness w, .tick n, .compose] s
        = .next t ∧
      execAll [.ledsetAllColor r g b, setEffect, .ledsetAllSpeed v, .ledsetAllBrightness w, .tick n, .compose] s'
        = .next t' ∧
      t.port = .frame frame ∧ t'.port = .frame frame ∧ t.pix.map Pixel.visible = t'.pix.map Pixel.visible
end

