-- ==== Sys2Proof/Laws/State.lean ====
section
/-! SUPPORT. One lemma per field of `State` and update, and the fields of the power-on state, so that no proof unfolds a
record update. -/

namespace Sys2Proof.Machine

@[simp] theorem State.withPix_cfg (s : State) (ps : List Pixel) : (s.withPix ps).cfg = s.cfg := rfl
@[simp] theorem State.withPix_pix (s : State) (ps : List Pixel) : (s.withPix ps).pix = ps := rfl
@[simp] theorem State.withPix_buf (s : State) (ps : List Pixel) : (s.withPix ps).buf = s.buf := rfl
@[simp] theorem State.withPix_port (s : State) (ps : List Pixel) : (s.withPix ps).port = s.port := rfl
@[simp] theorem State.withPix_queue (s : State) (ps : List Pixel) : (s.withPix ps).queue = s.queue := rfl
@[simp] theorem State.withPix_inBootloader (s : State) (ps : List Pixel) : (s.withPix ps).inBootloader = s.inBootloader := rfl
@[simp] theorem State.withPix_foreignSeen (s : State) (ps : List Pixel) : (s.withPix ps).foreignSeen = s.foreignSeen := rfl

@[simp] theorem State.withBuf_cfg (s : State) (m : List Byte) : (s.withBuf m).cfg = s.cfg := rfl
@[simp] theorem State.withBuf_pix (s : State) (m : List Byte) : (s.withBuf m).pix = s.pix := rfl
@[simp] theorem State.withBuf_buf (s : State) (m : List Byte) : (s.withBuf m).buf = m := rfl
@[simp] theorem State.withBuf_port (s : State) (m : List Byte) : (s.withBuf m).port = s.port := rfl
@[simp] theorem State.withBuf_queue (s : State) (m : List Byte) : (s.withBuf m).queue = s.queue := rfl
@[simp] theorem State.withBuf_inBootloader (s : State) (m : List Byte) : (s.withBuf m).inBootloader = s.inBootloader := rfl
@[simp] theorem State.withBuf_foreignSeen (s : State) (m : List Byte) : (s.withBuf m).foreignSeen = s.foreignSeen := rfl

@[simp] theorem State.withPort_cfg (s : State) (p : PortOut) : (s.withPort p).cfg = s.cfg := rfl
@[simp] theorem State.withPort_pix (s : State) (p : PortOut) : (s.withPort p).pix = s.pix := rfl
@[simp] theorem State.withPort_buf (s : State) (p : PortOut) : (s.withPort p).buf = s.buf := rfl
@[simp] theorem State.withPort_port (s : State) (p : PortOut) : (s.withPort p).port = p := rfl
@[simp] theorem State.withPort_queue (s : State) (p : PortOut) : (s.withPort p).queue = s.queue := rfl
@[simp] theorem State.withPort_inBootloader (s : State) (p : PortOut) : (s.withPort p).inBootloader = s.inBootloader := rfl
@[simp] theorem State.withPort_foreignSeen (s : State) (p : PortOut) : (s.withPort p).foreignSeen = s.foreignSeen := rfl

@[simp] theorem State.withQueue_cfg (s : State) (q : List Event) : (s.withQueue q).cfg = s.cfg := rfl
@[simp] theorem State.withQueue_pix (s : State) (q : List Event) : (s.withQueue q).pix = s.pix := rfl
@[simp] theorem State.withQueue_buf (s : State) (q : List Event) : (s.withQueue q).buf = s.buf := rfl
@[simp] theorem State.withQueue_port (s : State) (q : List Event) : (s.withQueue q).port = s.port := rfl
@[simp] theorem State.withQueue_queue (s : State) (q : List Event) : (s.withQueue q).queue = q := rfl
@[simp] theorem State.withQueue_inBootloader (s : State) (q : List Event) : (s.withQueue q).inBootloader = s.inBootloader := rfl
@[simp] theorem State.withQueue_foreignSeen (s : State) (q : List Event) : (s.withQueue q).foreignSeen = s.foreignSeen := rfl

@[simp] theorem State.withInBootloader_cfg (s : State) (b : Bool) : (s.withInBootloader b).cfg = s.cfg := rfl
@[simp] theorem State.withInBootloader_pix (s : State) (b : Bool) : (s.withInBootloader b).pix = s.pix := rfl
@[simp] theorem State.withInBootloader_buf (s : State) (b : Bool) : (s.withInBootloader b).buf = s.buf := rfl
@[simp] theorem State.withInBootloader_port (s : State) (b : Bool) : (s.withInBootloader b).port = s.port := rfl
@[simp] theorem State.withInBootloader_queue (s : State) (b : Bool) : (s.withInBootloader b).queue = s.queue := rfl
@[simp] theorem State.withInBootloader_inBootloader (s : State) (b : Bool) : (s.withInBootloader b).inBootloader = b := rfl
@[simp] theorem State.withInBootloader_foreignSeen (s : State) (b : Bool) : (s.withInBootloader b).foreignSeen = s.foreignSeen := rfl

@[simp] theorem State.countForeign_cfg (s : State) : s.countForeign.cfg = s.cfg := rfl
@[simp] theorem State.countForeign_pix (s : State) : s.countForeign.pix = s.pix := rfl
@[simp] theorem State.countForeign_buf (s : State) : s.countForeign.buf = s.buf := rfl
@[simp] theorem State.countForeign_port (s : State) : s.countForeign.port = s.port := rfl
@[simp] theorem State.countForeign_queue (s : State) : s.countForeign.queue = s.queue := rfl
@[simp] theorem State.countForeign_inBootloader (s : State) : s.countForeign.inBootloader = s.inBootloader := rfl
@[simp] theorem State.countForeign_foreignSeen (s : State) : s.countForeign.foreignSeen = s.foreignSeen + 1 := rfl

@[simp] theorem State.powerOn_cfg (c : Cfg) : (State.powerOn c).cfg = c := rfl
@[simp] theorem State.powerOn_pix (c : Cfg) : (State.powerOn c).pix = List.replicate c.ledCount c.resetPixel := rfl
@[simp] theorem State.powerOn_buf (c : Cfg) : (State.powerOn c).buf = List.replicate c.msgLen 0 := rfl
@[simp] theorem State.powerOn_port (c : Cfg) : (State.powerOn c).port = .nothing := rfl
@[simp] theorem State.powerOn_queue (c : Cfg) : (State.powerOn c).queue = [] := rfl
@[simp] theorem State.powerOn_inBootloader (c : Cfg) : (State.powerOn c).inBootloader = false := rfl
@[simp] theorem State.powerOn_foreignSeen (c : Cfg) : (State.powerOn c).foreignSeen = 0 := rfl

end Sys2Proof.Machine
end

