-- ==== Sys2Proof/Laws/Ops.lean ====
section
/-! SUPPORT. One lemma per shared operation, saying once everything it does: answering, failing, filling a range, LEDSET as
a whole, answering a foreign message, the reset event. -/

namespace Sys2Proof.Machine

/-! ### Reading one LED -/

theorem State.led_eq (s : State) (i : Nat) : s.led i = s.pix[i]? := rfl

/-- Two states with the same Pixel Records read alike. -/
theorem State.led_congr {s t : State} (h : t.pix = s.pix) (i : Nat) : t.led i = s.led i := by
  simp [State.led, h]

/-! ### Answering -/

theorem responseTo_success (req : List Byte) : responseTo req none = req := rfl

theorem responseTo_failure (req : List Byte) (c : FailCause) : responseTo req (some c) = req.set 0 0xFF := rfl

@[simp] theorem responseTo_length (req : List Byte) (c : Option FailCause) : (responseTo req c).length = req.length := by
  cases c <;> simp [responseTo_success, responseTo_failure]

/-- Everything a failure does (R192). -/
theorem State.raise_spec (s : State) (c : FailCause) :
    (s.raise c).pix = s.pix ∧ (s.raise c).buf = s.buf.set 0 0xFF ∧ (s.raise c).port = .response (some c) ∧
      (s.raise c).cfg = s.cfg ∧ (s.raise c).queue = s.queue ∧ (s.raise c).inBootloader = s.inBootloader ∧
      (s.raise c).foreignSeen = s.foreignSeen :=
  ⟨rfl, rfl, rfl, rfl, rfl, rfl, rfl⟩

/-- Everything a successful ending does (R112). -/
theorem State.complete_spec (s : State) :
    s.complete.pix = s.pix ∧ s.complete.buf = s.buf ∧ s.complete.port = .response none ∧ s.complete.cfg = s.cfg ∧
      s.complete.queue = s.queue ∧ s.complete.inBootloader = s.inBootloader ∧ s.complete.foreignSeen = s.foreignSeen :=
  ⟨rfl, rfl, rfl, rfl, rfl, rfl, rfl⟩

/-- Everything a reply in byte 1 does (R180, R181). -/
theorem State.replyByte_spec (s : State) (v : Byte) :
    (s.replyByte v).pix = s.pix ∧ (s.replyByte v).buf = s.buf.set 1 v ∧ (s.replyByte v).port = .response none ∧
      (s.replyByte v).cfg = s.cfg ∧ (s.replyByte v).queue = s.queue ∧
      (s.replyByte v).inBootloader = s.inBootloader ∧ (s.replyByte v).foreignSeen = s.foreignSeen :=
  ⟨rfl, rfl, rfl, rfl, rfl, rfl, rfl⟩

/-! ### Filling a range -/

/-- What LED `i` holds after a fill of `a..b`. -/
theorem State.fillRange_led (s : State) (a b : Nat) (x : Attr) (i : Nat) :
    (s.fillRange a b x).led i = if a ≤ i ∧ i ≤ b then (s.led i).map (fun p => x.apply i a b p) else s.led i := by
  simp only [State.led, State.fillRange, State.withPix_pix, List.getElem?_mapIdx]
  split <;> simp

/-- A fill changes Pixel Records only, and not how many there are. -/
theorem State.fillRange_frame (s : State) (a b : Nat) (x : Attr) :
    (s.fillRange a b x).pix.length = s.pix.length ∧ (s.fillRange a b x).buf = s.buf ∧
      (s.fillRange a b x).cfg = s.cfg ∧ (s.fillRange a b x).port = s.port ∧ (s.fillRange a b x).queue = s.queue ∧
      (s.fillRange a b x).inBootloader = s.inBootloader ∧ (s.fillRange a b x).foreignSeen = s.foreignSeen :=
  ⟨List.length_mapIdx, rfl, rfl, rfl, rfl, rfl, rfl⟩

/-- No attribute touches the output colour or the envelope counter (R113). -/
theorem Attr.apply_out_env (i a b : Nat) (p : Pixel) (x : Attr) :
    (x.apply i a b p).out = p.out ∧ (x.apply i a b p).env = p.env := by
  cases x <;> exact ⟨rfl, rfl⟩

/-- Applying an attribute twice is applying it once (R55). -/
theorem Attr.apply_twice (i a b : Nat) (p : Pixel) (x : Attr) :
    x.apply i a b (x.apply i a b p) = x.apply i a b p := by
  cases x <;> rfl

/-! ### Effect ids -/

theorem Effect.ofByte_toByte (e : Effect) : Effect.ofByte e.toByte = some e := by
  cases e <;> decide

/-- Exactly the ids below 4 name an effect (R8). -/
theorem Effect.ofByte_eq_none_iff (eff : Byte) : Effect.ofByte eff = none ↔ 4 ≤ eff.toNat := by
  revert eff; decide

theorem Effect.ofByte_eq_some_iff (eff : Byte) (e : Effect) : Effect.ofByte eff = some e ↔ eff = e.toByte := by
  cases e <;> revert eff <;> decide

/-! ### Selectors and values -/

theorem resolve_single (c : Cfg) (idx : Byte) :
    resolve c (.single idx) = if c.ledCount ≤ idx.toNat then .error .index else .ok (idx.toNat, idx.toNat) := rfl

theorem resolve_section_some {c : Cfg} {sec : Byte} {x : SectionRecord} (h : c.sections[sec.toNat]? = some x) :
    resolve c (.ofSection sec) = .ok (x.first.toNat, x.last.toNat) := by
  simp [resolve, h]

theorem resolve_section_none {c : Cfg} {sec : Byte} (h : c.sectionCount ≤ sec.toNat) :
    resolve c (.ofSection sec) = .error .sectionId := by
  simp [resolve, List.getElem?_eq_none (h : c.sections.length ≤ sec.toNat)]

/-- Under a legal configuration a resolved range is a range of LEDs (R100). -/
theorem resolve_bounds {c : Cfg} (hc : c.Wf) {sel : Selector} {a b : Nat} (h : resolve c sel = .ok (a, b)) :
    a ≤ b ∧ b < c.ledCount := by
  obtain ⟨h1, -, -, -, hs⟩ := hc
  cases sel with
  | single idx =>
    simp only [resolve] at h
    split at h <;> simp at h
    omega
  | range first last =>
    simp only [resolve] at h
    split at h
    · simp at h
    · split at h <;> simp at h
      omega
  | ofSection sec =>
    simp only [resolve] at h
    split at h <;> simp at h
    rename_i x hx
    have := hs x (List.mem_of_getElem? hx)
    omega
  | all => simp [resolve] at h; omega

/-! ### LEDSET as a whole -/

/-- Everything an LEDSET can do (R100): fail on its selector, fail on its value, or fill the range. -/
theorem State.ledSet_cases (s : State) (sel : Selector) (val : Value) :
    (∃ c, resolve s.cfg sel = .error c ∧ s.ledSet sel val = s.raise c) ∨
    (∃ a b c, resolve s.cfg sel = .ok (a, b) ∧ validate val = .error c ∧ s.ledSet sel val = s.raise c) ∨
    (∃ a b x, resolve s.cfg sel = .ok (a, b) ∧ validate val = .ok x ∧
      s.ledSet sel val = (s.fillRange a b x).complete) := by
  unfold State.ledSet
  cases h : resolve s.cfg sel with
  | error c => exact .inl ⟨c, rfl, rfl⟩
  | ok r =>
    obtain ⟨a, b⟩ := r
    cases hv : validate val with
    | error c => exact .inr (.inl ⟨a, b, c, rfl, rfl, rfl⟩)
    | ok x => exact .inr (.inr ⟨a, b, x, rfl, rfl, rfl⟩)

theorem State.ledSet_ok {s : State} {sel : Selector} {val : Value} {a b : Nat} {x : Attr}
    (hr : resolve s.cfg sel = .ok (a, b)) (hv : validate val = .ok x) :
    s.ledSet sel val = (s.fillRange a b x).complete := by
  simp [State.ledSet, hr, hv]

theorem State.ledSet_selector_error {s : State} {sel : Selector} {c : FailCause} (val : Value)
    (hr : resolve s.cfg sel = .error c) : s.ledSet sel val = s.raise c := by
  simp [State.ledSet, hr]

theorem State.ledSet_value_error {s : State} {sel : Selector} {val : Value} {c : FailCause} {r : Nat × Nat}
    (hr : resolve s.cfg sel = .ok r) (hv : validate val = .error c) : s.ledSet sel val = s.raise c := by
  simp [State.ledSet, hr, hv]

/-- What an LEDSET leaves alone, whatever it does. -/
theorem State.ledSet_frame (s : State) (sel : Selector) (val : Value) :
    (s.ledSet sel val).pix.length = s.pix.length ∧ (s.ledSet sel val).buf.length = s.buf.length ∧
      (s.ledSet sel val).cfg = s.cfg ∧ (s.ledSet sel val).queue = s.queue ∧
      (s.ledSet sel val).inBootloader = s.inBootloader ∧ (s.ledSet sel val).foreignSeen = s.foreignSeen := by
  obtain ⟨c, -, h⟩ | ⟨a, b, c, -, -, h⟩ | ⟨a, b, x, -, -, h⟩ := s.ledSet_cases sel val <;> rw [h]
  · exact ⟨rfl, responseTo_length s.buf (some c), rfl, rfl, rfl, rfl⟩
  · exact ⟨rfl, responseTo_length s.buf (some c), rfl, rfl, rfl, rfl⟩
  · exact ⟨List.length_mapIdx, rfl, rfl, rfl, rfl, rfl⟩

/-! ### Foreign messages and reset -/

/-- Everything the answer to a message that is not for the engine does; its bytes are free (R184, R185). -/
theorem State.answerForeign_spec (s : State) (f : Foreign) :
    (s.answerForeign f).pix = s.pix ∧ (s.answerForeign f).cfg = s.cfg ∧ (s.answerForeign f).queue = s.queue ∧
      (s.answerForeign f).buf.length = s.buf.length ∧ (s.answerForeign f).port = .response none ∧
      (s.answerForeign f).foreignSeen = s.foreignSeen + 1 ∧
      (s.answerForeign f).inBootloader = (s.inBootloader || isEnterBootloader f) :=
  ⟨rfl, rfl, rfl, by simp [State.answerForeign, foreignBytes], rfl, rfl, rfl⟩

/-- Everything a reset event does (R210). -/
theorem State.resetEvent_spec (s : State) :
    s.resetEvent.pix = List.replicate s.cfg.ledCount s.cfg.resetPixel ∧
      s.resetEvent.buf = List.replicate s.cfg.msgLen 0 ∧ s.resetEvent.cfg = s.cfg ∧ s.resetEvent.port = .nothing ∧
      s.resetEvent.queue = s.queue ∧ s.resetEvent.inBootloader = false ∧
      s.resetEvent.foreignSeen = s.foreignSeen :=
  ⟨rfl, rfl, rfl, rfl, rfl, rfl, rfl⟩

end Sys2Proof.Machine
end

