-- ==== Sys2Proof/Laws/Exec.lean ====
section
/-! SUPPORT. What a meaning, and what a step, can do, said once. -/

namespace Sys2Proof.Machine

/-- The selector and the value of an LEDSET form; none for any other operation. -/
def ledsetParts : Instr → Option (Selector × Value)
  | .ledsetSingleColor idx r g b => some (.single idx, .color r g b)
  | .ledsetSingleEffect idx eff => some (.single idx, .effect eff)
  | .ledsetSingleEffectSpaced idx eff => some (.single idx, .effectSpaced eff)
  | .ledsetSinglePhase idx v => some (.single idx, .phase v)
  | .ledsetSingleSpeed idx v => some (.single idx, .speed v)
  | .ledsetSingleBrightness idx v => some (.single idx, .brightness v)
  | .ledsetMultipleColor first last r g b => some (.range first last, .color r g b)
  | .ledsetMultipleEffect first last eff => some (.range first last, .effect eff)
  | .ledsetMultipleEffectSpaced first last eff => some (.range first last, .effectSpaced eff)
  | .ledsetMultiplePhase first last v => some (.range first last, .phase v)
  | .ledsetMultipleSpeed first last v => some (.range first last, .speed v)
  | .ledsetMultipleBrightness first last v => some (.range first last, .brightness v)
  | .ledsetSectionColor sec r g b => some (.ofSection sec, .color r g b)
  | .ledsetSectionEffect sec eff => some (.ofSection sec, .effect eff)
  | .ledsetSectionEffectSpaced sec eff => some (.ofSection sec, .effectSpaced eff)
  | .ledsetSectionPhase sec v => some (.ofSection sec, .phase v)
  | .ledsetSectionSpeed sec v => some (.ofSection sec, .speed v)
  | .ledsetSectionBrightness sec v => some (.ofSection sec, .brightness v)
  | .ledsetAllColor r g b => some (.all, .color r g b)
  | .ledsetAllEffect eff => some (.all, .effect eff)
  | .ledsetAllEffectSpaced eff => some (.all, .effectSpaced eff)
  | .ledsetAllPhase v => some (.all, .phase v)
  | .ledsetAllSpeed v => some (.all, .speed v)
  | .ledsetAllBrightness v => some (.all, .brightness v)
  | .ledmetaLedcount => none
  | .ledmetaSectioncount => none
  | .ledget => none
  | .tick _ => none
  | .compose => none

/-- Everything `exec` can do: it always answers a next state, which is an LEDSET's, a reply's, a bare completion, a TICK's or
a COMPOSE's. -/
theorem exec_cases (i : Instr) (s : State) :
    (∃ sel val, ledsetParts i = some (sel, val) ∧ exec i s = .next (s.ledSet sel val)) ∨
    (i = .ledmetaLedcount ∧ exec i s = .next (s.replyByte (BitVec.ofNat 8 s.cfg.ledCount))) ∨
    (i = .ledmetaSectioncount ∧ exec i s = .next (s.replyByte (BitVec.ofNat 8 s.cfg.sectionCount))) ∨
    (i = .ledget ∧ exec i s = .next s.complete) ∨
    (∃ n, i = .tick n ∧ exec i s = .next ((s.withPix (s.pix.map (tickPixel s.cfg n))).withPort .nothing)) ∨
    (i = .compose ∧ exec i s = .next (s.withPort (.frame (s.pix.map project)))) := by
  cases i
  case tick n => exact .inr (.inr (.inr (.inr (.inl ⟨n, rfl, rfl⟩))))
  case compose => exact .inr (.inr (.inr (.inr (.inr ⟨rfl, rfl⟩))))
  case ledget => exact .inr (.inr (.inr (.inl ⟨rfl, rfl⟩)))
  case ledmetaLedcount => exact .inr (.inl ⟨rfl, rfl⟩)
  case ledmetaSectioncount => exact .inr (.inr (.inl ⟨rfl, rfl⟩))
  all_goals exact .inl ⟨_, _, rfl, rfl⟩

/-- An LEDSET form runs the shared operation on its parts. -/
theorem exec_of_ledsetParts {i : Instr} {sel : Selector} {val : Value} (h : ledsetParts i = some (sel, val)) (s : State) :
    exec i s = .next (s.ledSet sel val) := by
  cases i <;> simp only [ledsetParts, Option.some.injEq, Prod.mk.injEq, reduceCtorEq] at h <;>
    (obtain ⟨rfl, rfl⟩ := h; rfl)

/-- The LEDSET forms are exactly the operations with a selector and a value. -/
theorem isLedset_iff_parts (i : Instr) : isLedset i = true ↔ ∃ sel val, ledsetParts i = some (sel, val) := by
  cases i <;> simp [isLedset, isColor, isEffect, isPhase, isSpeed, isBrightness, ledsetParts]

/-- The range a statement computes for an LEDSET form is the one its selector resolves to (R101 to R104). -/
theorem targetRange_eq_resolve {i : Instr} {sel : Selector} {val : Value} (h : ledsetParts i = some (sel, val)) (c : Cfg) :
    targetRange c i = (resolve c sel).toOption := by
  have single (idx : Byte) : (if idx.toNat < c.ledCount then some (idx.toNat, idx.toNat) else none) =
      (resolve c (.single idx)).toOption := by
    by_cases h : c.ledCount ≤ idx.toNat
    · simp [resolve, h, Except.toOption]
    · simp [resolve, h, Except.toOption, Nat.lt_of_not_le h]
  have range (first last : Byte) :
      (if first.toNat ≤ last.toNat ∧ last.toNat < c.ledCount then some (first.toNat, last.toNat) else none) =
        (resolve c (.range first last)).toOption := by
    simp only [resolve]
    split <;> split <;> (try split) <;> first | rfl | omega
  have ofSection (sec : Byte) : (c.sections[sec.toNat]?.map fun x => (x.first.toNat, x.last.toNat)) =
      (resolve c (.ofSection sec)).toOption := by
    simp only [resolve]
    cases c.sections[sec.toNat]? <;> rfl
  cases i <;> simp only [ledsetParts, Option.some.injEq, Prod.mk.injEq, reduceCtorEq] at h <;>
    obtain ⟨rfl, rfl⟩ := h <;> simp only [targetRange, single, range, ofSection] <;> rfl

/-- What a TICK leaves in LED `i`. -/
theorem execTick_led (n : TickCount) (s : State) (i : Nat) :
    ((s.withPix (s.pix.map (tickPixel s.cfg n))).withPort .nothing).led i = (s.led i).map (tickPixel s.cfg n) := by
  simp [State.led]

/-- A TICK leaves base, effect, speed and brightness alone, and takes the colour from the phase it found (R151, R160). -/
theorem tickPixel_spec (c : Cfg) (n : TickCount) (p : Pixel) :
    (tickPixel c n p).base = p.base ∧ (tickPixel c n p).effect = p.effect ∧ (tickPixel c n p).speed = p.speed ∧
      (tickPixel c n p).brightness = p.brightness ∧ (tickPixel c n p).out = effectFn c p.effect p.base p.phase ∧
      (tickPixel c n p).phase = (if advances p.speed n then p.phase + 1 else p.phase) ∧
      (tickPixel c n p).env = (if advances p.speed n then nextEnv p else p.env) := by
  unfold tickPixel
  cases advances p.speed n <;> exact ⟨rfl, rfl, rfl, rfl, rfl, rfl, rfl⟩

/-- Everything a step can do, by the event it takes. -/
theorem step_cases {s t : State} (h : step s = .next t) :
    (s.queue = [] ∧ t = s) ∨
    (∃ ab q, s.queue = .reset ab :: q ∧ t = (s.withQueue q).resetEvent) ∨
    (∃ o q, s.queue = .op o :: q ∧ s.inBootloader = false ∧ runOp o (s.withQueue q) = .next t) := by
  unfold step at h
  cases hq : s.queue with
  | nil => rw [hq] at h; cases h; exact .inl ⟨rfl, rfl⟩
  | cons e q =>
    rw [hq] at h
    cases e with
    | reset ab => cases h; exact .inr (.inl ⟨ab, q, rfl, rfl⟩)
    | op o =>
      refine .inr (.inr ⟨o, q, rfl, ?_, h⟩)
      cases hb : s.inBootloader with
      | false => rfl
      | true => simp [runEvent, runOp, hb] at h

/-- Everything an accepted operation can do. -/
theorem runOp_cases {o : Op} {s t : State} (h : runOp o s = .next t) :
    (∃ req i, o = .command req ∧ req.length = s.cfg.msgLen ∧ decode req = .command i ∧
      exec i (s.withBuf req) = .next t) ∨
    (∃ req c, o = .command req ∧ req.length = s.cfg.msgLen ∧ decode req = .fail c ∧ t = (s.withBuf req).raise c) ∨
    (∃ req f, o = .command req ∧ req.length = s.cfg.msgLen ∧ decode req = .foreign f ∧
      t = (s.withBuf req).answerForeign f) ∨
    (∃ n, o = .tick n ∧ exec (.tick n) s = .next t) ∨
    (o = .compose ∧ exec .compose s = .next t) := by
  unfold runOp at h
  split at h
  · cases h
  · cases o with
    | tick n => exact .inr (.inr (.inr (.inl ⟨n, rfl, h⟩)))
    | compose => exact .inr (.inr (.inr (.inr ⟨rfl, h⟩)))
    | command req =>
      simp only [runCommand, State.acceptsMessage, beq_iff_eq] at h
      split at h
      case isFalse => cases h
      case isTrue hl =>
        cases hd : decode req with
        | command i => rw [hd] at h; exact .inl ⟨req, i, rfl, hl, hd, h⟩
        | fail c => rw [hd] at h; cases h; exact .inr (.inl ⟨req, c, rfl, hl, hd, rfl⟩)
        | foreign f => rw [hd] at h; cases h; exact .inr (.inr (.inl ⟨req, f, rfl, hl, hd, rfl⟩))
        | short => rw [hd] at h; cases h

end Sys2Proof.Machine
end

