-- ==== Sys2Proof/Laws/PerInstr.lean ====
section
/-! SUPPORT. A family of laws, one lemma per operation: every encoding fits the 8 bytes every message has (R74), and the
operations without one are exactly those that are not well-formed commands (R84). -/

namespace Sys2Proof.Laws.EncodingFits

/-- The encoding of `i` fits 8 bytes, and `i` has one exactly when it is a well-formed command. -/
def Statement (i : Instr) : Prop :=
  (encode i).length ≤ 8 ∧ (i.wellFormed = true ↔ encode i ≠ [])

theorem ledsetSingleColor (idx r g b : Byte) : Statement (.ledsetSingleColor idx r g b) := by
  simp [Statement, encode, Instr.wellFormed]

theorem ledsetSingleEffect (idx eff : Byte) : Statement (.ledsetSingleEffect idx eff) := by
  simp [Statement, encode, Instr.wellFormed]

theorem ledsetSingleEffectSpaced (idx eff : Byte) : Statement (.ledsetSingleEffectSpaced idx eff) := by
  simp [Statement, encode, Instr.wellFormed]

theorem ledsetSinglePhase (idx v : Byte) : Statement (.ledsetSinglePhase idx v) := by
  simp [Statement, encode, Instr.wellFormed]

theorem ledsetSingleSpeed (idx v : Byte) : Statement (.ledsetSingleSpeed idx v) := by
  simp [Statement, encode, Instr.wellFormed]

theorem ledsetSingleBrightness (idx v : Byte) : Statement (.ledsetSingleBrightness idx v) := by
  simp [Statement, encode, Instr.wellFormed]

theorem ledsetMultipleColor (first last r g b : Byte) : Statement (.ledsetMultipleColor first last r g b) := by
  simp [Statement, encode, Instr.wellFormed]

theorem ledsetMultipleEffect (first last eff : Byte) : Statement (.ledsetMultipleEffect first last eff) := by
  simp [Statement, encode, Instr.wellFormed]

theorem ledsetMultipleEffectSpaced (first last eff : Byte) : Statement (.ledsetMultipleEffectSpaced first last eff) := by
  simp [Statement, encode, Instr.wellFormed]

theorem ledsetMultiplePhase (first last v : Byte) : Statement (.ledsetMultiplePhase first last v) := by
  simp [Statement, encode, Instr.wellFormed]

theorem ledsetMultipleSpeed (first last v : Byte) : Statement (.ledsetMultipleSpeed first last v) := by
  simp [Statement, encode, Instr.wellFormed]

theorem ledsetMultipleBrightness (first last v : Byte) : Statement (.ledsetMultipleBrightness first last v) := by
  simp [Statement, encode, Instr.wellFormed]

theorem ledsetSectionColor (sec r g b : Byte) : Statement (.ledsetSectionColor sec r g b) := by
  simp [Statement, encode, Instr.wellFormed]

theorem ledsetSectionEffect (sec eff : Byte) : Statement (.ledsetSectionEffect sec eff) := by
  simp [Statement, encode, Instr.wellFormed]

theorem ledsetSectionEffectSpaced (sec eff : Byte) : Statement (.ledsetSectionEffectSpaced sec eff) := by
  simp [Statement, encode, Instr.wellFormed]

theorem ledsetSectionPhase (sec v : Byte) : Statement (.ledsetSectionPhase sec v) := by
  simp [Statement, encode, Instr.wellFormed]

theorem ledsetSectionSpeed (sec v : Byte) : Statement (.ledsetSectionSpeed sec v) := by
  simp [Statement, encode, Instr.wellFormed]

theorem ledsetSectionBrightness (sec v : Byte) : Statement (.ledsetSectionBrightness sec v) := by
  simp [Statement, encode, Instr.wellFormed]

theorem ledsetAllColor (r g b : Byte) : Statement (.ledsetAllColor r g b) := by
  simp [Statement, encode, Instr.wellFormed]

theorem ledsetAllEffect (eff : Byte) : Statement (.ledsetAllEffect eff) := by
  simp [Statement, encode, Instr.wellFormed]

theorem ledsetAllEffectSpaced (eff : Byte) : Statement (.ledsetAllEffectSpaced eff) := by
  simp [Statement, encode, Instr.wellFormed]

theorem ledsetAllPhase (v : Byte) : Statement (.ledsetAllPhase v) := by
  simp [Statement, encode, Instr.wellFormed]

theorem ledsetAllSpeed (v : Byte) : Statement (.ledsetAllSpeed v) := by
  simp [Statement, encode, Instr.wellFormed]

theorem ledsetAllBrightness (v : Byte) : Statement (.ledsetAllBrightness v) := by
  simp [Statement, encode, Instr.wellFormed]

theorem ledmetaLedcount : Statement .ledmetaLedcount := by
  simp [Statement, encode, Instr.wellFormed]

theorem ledmetaSectioncount : Statement .ledmetaSectioncount := by
  simp [Statement, encode, Instr.wellFormed]

theorem ledget : Statement .ledget := by
  simp [Statement, encode, Instr.wellFormed]

theorem tick (t : TickCount) : Statement (.tick t) := by
  simp [Statement, encode, Instr.wellFormed]

theorem compose : Statement .compose := by
  simp [Statement, encode, Instr.wellFormed]

end Sys2Proof.Laws.EncodingFits
end

