-- ==== Sys2Proof/Tests/Slice0.lean ====
section
/-! SUPPORT. The model's own tests. Messages and expected values are the spec's own encodings (30_encoding.md R74, R76, R77) and
test vectors (95_test_vectors.md); the witnesses show that the hypotheses of the statements can be met together. -/

namespace Sys2Proof.Machine.Tests

/-! ### Helpers -/

/-- The state after a step that is handed one event; none where the step stops. -/
def after (s : State) (e : Event) : Option State :=
  match step (s.withQueue [e]) with
  | .next t => some t
  | .fault _ => none
  | .refused _ => none

/-- The state after one command message. -/
def send (s : State) (req : List Byte) : Option State := after s (.op (.command req))

/-- One field of every Pixel Record. -/
def column {α : Type} (f : Pixel → α) (t : Option State) : Option (List α) := t.map fun s => s.pix.map f

/-- The command buffer. -/
def rsp (t : Option State) : Option (List Byte) := t.map State.buf

/-- The reset state with one pixel at LED 0. -/
def onePixel (p : Pixel) : State := State.reset.withPix (p :: State.reset.pix.drop 1)

/-- The reset pixel with another base, effect, phase and speed. -/
def pixelOf (base : Colour) (e : Effect) (phase speed : Byte) : Pixel :=
  { resetDefaults with base := base, effect := e, phase := phase, speed := speed }

/-- What a TICK with count `n` leaves in LED 0 when it holds `p`. -/
def tick0 (p : Pixel) (n : TickCount) : Option Pixel :=
  (after (onePixel p) (.op (.tick n))).bind fun t => t.led 0

/-- The reset state about to take this event. -/
def taking (e : Event) : State := State.reset.withQueue [e]

/-! ### WellFormed smoke: each check refuses a term -/

theorem test_tick_is_no_command : (Instr.tick 5).wellFormed = false := by decide
theorem test_compose_is_no_command : Instr.compose.wellFormed = false := by decide
theorem test_ledget_is_a_command : Instr.ledget.wellFormed = true := by decide
theorem test_operands_refuse_led_8 : (Instr.ledsetSingleSpeed 8 1).operandsOk Cfg.testConfig = false := by decide
theorem test_operands_refuse_range_end_8 : (Instr.ledsetMultipleSpeed 3 8 1).operandsOk Cfg.testConfig = false := by decide
theorem test_operands_refuse_range_start_8 : (Instr.ledsetMultipleSpeed 8 3 1).operandsOk Cfg.testConfig = false := by decide
theorem test_operands_refuse_inverted_range : (Instr.ledsetMultipleSpeed 3 2 1).operandsOk Cfg.testConfig = false := by decide
theorem test_operands_refuse_section_3 : (Instr.ledsetSectionSpeed 3 1).operandsOk Cfg.testConfig = false := by decide
theorem test_operands_refuse_effect_4 : (Instr.ledsetAllEffect 4).operandsOk Cfg.testConfig = false := by decide
theorem test_operands_accept_last : (Instr.ledsetMultipleEffect 7 7 3).operandsOk Cfg.testConfig = true := by decide

/-! ### Decoding: one word per operation, written from R74, R76, R77; the undecoded bytes are not 0 -/

theorem test_decode_single_color : decode [0x06, 0x01, 0x02, 0x01, 0x0A, 0x14, 0x1E, 0xEE] = .command (.ledsetSingleColor 2 10 20 30) := by decide
theorem test_decode_single_effect : decode [0x06, 0x01, 0x02, 0x02, 0x02, 0xEE, 0xEE, 0xEE] = .command (.ledsetSingleEffect 2 2) := by decide
theorem test_decode_single_effect_spaced : decode [0x06, 0x01, 0x02, 0x03, 0x01, 0xEE, 0xEE, 0xEE] = .command (.ledsetSingleEffectSpaced 2 1) := by decide
theorem test_decode_single_phase : decode [0x06, 0x01, 0x02, 0x04, 0x80, 0xEE, 0xEE, 0xEE] = .command (.ledsetSinglePhase 2 128) := by decide
theorem test_decode_single_speed : decode [0x06, 0x01, 0x02, 0x05, 0x03, 0xEE, 0xEE, 0xEE] = .command (.ledsetSingleSpeed 2 3) := by decide
theorem test_decode_single_brightness : decode [0x06, 0x01, 0x02, 0x06, 0x40, 0xEE, 0xEE, 0xEE] = .command (.ledsetSingleBrightness 2 64) := by decide
theorem test_decode_multiple_color : decode [0x06, 0x02, 0x01, 0x05, 0x01, 0x0A, 0x14, 0x1E] = .command (.ledsetMultipleColor 1 5 10 20 30) := by decide
theorem test_decode_multiple_effect : decode [0x06, 0x02, 0x01, 0x05, 0x02, 0x02, 0xEE, 0xEE] = .command (.ledsetMultipleEffect 1 5 2) := by decide
theorem test_decode_multiple_effect_spaced : decode [0x06, 0x02, 0x01, 0x05, 0x03, 0x01, 0xEE, 0xEE] = .command (.ledsetMultipleEffectSpaced 1 5 1) := by decide
theorem test_decode_multiple_phase : decode [0x06, 0x02, 0x01, 0x05, 0x04, 0x80, 0xEE, 0xEE] = .command (.ledsetMultiplePhase 1 5 128) := by decide
theorem test_decode_multiple_speed : decode [0x06, 0x02, 0x01, 0x05, 0x05, 0x03, 0xEE, 0xEE] = .command (.ledsetMultipleSpeed 1 5 3) := by decide
theorem test_decode_multiple_brightness : decode [0x06, 0x02, 0x01, 0x05, 0x06, 0x40, 0xEE, 0xEE] = .command (.ledsetMultipleBrightness 1 5 64) := by decide
theorem test_decode_section_color : decode [0x06, 0x03, 0x01, 0x01, 0x0A, 0x14, 0x1E, 0xEE] = .command (.ledsetSectionColor 1 10 20 30) := by decide
theorem test_decode_section_effect : decode [0x06, 0x03, 0x01, 0x02, 0x02, 0xEE, 0xEE, 0xEE] = .command (.ledsetSectionEffect 1 2) := by decide
theorem test_decode_section_effect_spaced : decode [0x06, 0x03, 0x01, 0x03, 0x01, 0xEE, 0xEE, 0xEE] = .command (.ledsetSectionEffectSpaced 1 1) := by decide
theorem test_decode_section_phase : decode [0x06, 0x03, 0x01, 0x04, 0x80, 0xEE, 0xEE, 0xEE] = .command (.ledsetSectionPhase 1 128) := by decide
theorem test_decode_section_speed : decode [0x06, 0x03, 0x01, 0x05, 0x03, 0xEE, 0xEE, 0xEE] = .command (.ledsetSectionSpeed 1 3) := by decide
theorem test_decode_section_brightness : decode [0x06, 0x03, 0x01, 0x06, 0x40, 0xEE, 0xEE, 0xEE] = .command (.ledsetSectionBrightness 1 64) := by decide
theorem test_decode_all_color : decode [0x06, 0x04, 0x01, 0x0A, 0x14, 0x1E, 0xEE, 0xEE] = .command (.ledsetAllColor 10 20 30) := by decide
theorem test_decode_all_effect : decode [0x06, 0x04, 0x02, 0x02, 0xEE, 0xEE, 0xEE, 0xEE] = .command (.ledsetAllEffect 2) := by decide
theorem test_decode_all_effect_spaced : decode [0x06, 0x04, 0x03, 0x01, 0xEE, 0xEE, 0xEE, 0xEE] = .command (.ledsetAllEffectSpaced 1) := by decide
theorem test_decode_all_phase : decode [0x06, 0x04, 0x04, 0x80, 0xEE, 0xEE, 0xEE, 0xEE] = .command (.ledsetAllPhase 128) := by decide
theorem test_decode_all_speed : decode [0x06, 0x04, 0x05, 0x03, 0xEE, 0xEE, 0xEE, 0xEE] = .command (.ledsetAllSpeed 3) := by decide
theorem test_decode_all_brightness : decode [0x06, 0x04, 0x06, 0x40, 0xEE, 0xEE, 0xEE, 0xEE] = .command (.ledsetAllBrightness 64) := by decide
theorem test_decode_ledcount : decode [0x04, 0x01, 0xAA, 0xBB, 0xCC, 0xDD, 0xEE, 0x99] = .command .ledmetaLedcount := by decide
theorem test_decode_sectioncount : decode [0x04, 0x02, 0, 0, 0, 0, 0, 1] = .command .ledmetaSectioncount := by decide
theorem test_decode_ledget : decode [0x05, 0xFF, 1, 2, 3, 4, 5, 6, 7] = .command .ledget := by decide
theorem test_decode_opcode_edges : decode [0x00, 0, 0, 0, 0, 0, 0, 0] = .fail .opcode ∧ decode [0x07, 0, 0, 0, 0, 0, 0, 0] = .fail .opcode ∧
    decode [0xFD, 0, 0, 0, 0, 0, 0, 0] = .fail .opcode ∧ decode [0xFF, 6, 1, 0, 1, 9, 9, 9] = .fail .opcode := by decide
theorem test_decode_mode_edges : decode [6, 0, 0, 1, 1, 2, 3, 0] = .fail .mode ∧ decode [6, 5, 0, 1, 1, 2, 3, 0] = .fail .mode := by decide
theorem test_decode_kind_edges : decode [6, 1, 5, 0, 1, 0, 0, 0] = .fail .kind ∧ decode [6, 1, 5, 7, 1, 0, 0, 0] = .fail .kind ∧
    decode [6, 2, 1, 2, 7, 0, 0, 0] = .fail .kind ∧ decode [6, 3, 1, 0, 7, 0, 0, 0] = .fail .kind ∧
    decode [6, 4, 7, 1, 0, 0, 0, 0] = .fail .kind := by decide
theorem test_decode_meta_edges : decode [4, 0, 0, 0, 0, 0, 0, 0] = .fail .subId ∧ decode [4, 3, 0, 0, 0, 0, 0, 0] = .fail .subId := by decide
theorem test_decode_foreign : decode [1, 0, 0, 0, 0, 0, 0, 0] = .foreign .protocolVersion ∧ decode [2, 0, 0, 0, 0, 0, 0, 0] = .foreign .teamNumber ∧
    decode [3, 0, 0, 0, 0, 0, 0, 0] = .foreign .controllerState ∧ decode [0xFE, 0, 0, 0, 0, 0, 0, 0] = .foreign .enterBootloader := by decide
theorem test_decode_short : decode [6, 4, 6, 1, 0, 0, 0] = .short := by decide
theorem test_encode_pads_with_zeros : encodeMessage 8 (.ledsetSingleColor 2 10 20 30) = [0x06, 0x01, 0x02, 0x01, 0x0A, 0x14, 0x1E, 0] := by decide
theorem test_fetch_word_runs_first :
    (match step (State.reset.withFetchWord 64 0x0604064000000000) with
      | .next t => t.pix.map Pixel.brightness | _ => []) = List.replicate 8 64 := by decide

/-! ### LEDSET: the vector of each form from reset (95_test_vectors.md 2.2) -/

theorem test_single_color : column Pixel.base (send State.reset [0x06, 0x01, 0x02, 0x01, 0x0A, 0x14, 0x1E, 0x00]) =
    some [⟨0, 0, 0⟩, ⟨0, 0, 0⟩, ⟨10, 20, 30⟩, ⟨0, 0, 0⟩, ⟨0, 0, 0⟩, ⟨0, 0, 0⟩, ⟨0, 0, 0⟩, ⟨0, 0, 0⟩] := by decide
theorem test_single_effect : column Pixel.effect (send State.reset [0x06, 0x01, 0x02, 0x02, 0x02, 0x00, 0x00, 0x00]) =
    some [.static, .static, .breatheDown, .static, .static, .static, .static, .static] := by decide
theorem test_single_effect_spaced : column Pixel.phase (send State.reset [0x06, 0x01, 0x02, 0x03, 0x01, 0x00, 0x00, 0x00]) =
    some [0, 0, 0, 0, 0, 0, 0, 0] := by decide
theorem test_single_phase : column Pixel.phase (send State.reset [0x06, 0x01, 0x02, 0x04, 0x80, 0x00, 0x00, 0x00]) =
    some [0, 0, 128, 0, 0, 0, 0, 0] := by decide
theorem test_single_speed : column Pixel.speed (send State.reset [0x06, 0x01, 0x02, 0x05, 0x03, 0x00, 0x00, 0x00]) =
    some [1, 1, 3, 1, 1, 1, 1, 1] := by decide
theorem test_single_brightness : column Pixel.brightness (send State.reset [0x06, 0x01, 0x02, 0x06, 0x40, 0x00, 0x00, 0x00]) =
    some [255, 255, 64, 255, 255, 255, 255, 255] := by decide
theorem test_multiple_color : column Pixel.base (send State.reset [0x06, 0x02, 0x01, 0x05, 0x01, 0x0A, 0x14, 0x1E]) =
    some [⟨0, 0, 0⟩, ⟨10, 20, 30⟩, ⟨10, 20, 30⟩, ⟨10, 20, 30⟩, ⟨10, 20, 30⟩, ⟨10, 20, 30⟩, ⟨0, 0, 0⟩, ⟨0, 0, 0⟩] := by decide
theorem test_multiple_effect : column Pixel.effect (send State.reset [0x06, 0x02, 0x01, 0x05, 0x02, 0x02, 0x00, 0x00]) =
    some [.static, .breatheDown, .breatheDown, .breatheDown, .breatheDown, .breatheDown, .static, .static] := by decide
theorem test_multiple_effect_spaced : column Pixel.phase (send State.reset [0x06, 0x02, 0x01, 0x05, 0x03, 0x01, 0x00, 0x00]) =
    some [0, 0, 51, 102, 153, 204, 0, 0] := by decide
theorem test_multiple_phase : column Pixel.phase (send State.reset [0x06, 0x02, 0x01, 0x05, 0x04, 0x80, 0x00, 0x00]) =
    some [0, 128, 128, 128, 128, 128, 0, 0] := by decide
theorem test_multiple_speed : column Pixel.speed (send State.reset [0x06, 0x02, 0x01, 0x05, 0x05, 0x03, 0x00, 0x00]) =
    some [1, 3, 3, 3, 3, 3, 1, 1] := by decide
theorem test_multiple_brightness : column Pixel.brightness (send State.reset [0x06, 0x02, 0x01, 0x05, 0x06, 0x40, 0x00, 0x00]) =
    some [255, 64, 64, 64, 64, 64, 255, 255] := by decide
theorem test_section_color : column Pixel.base (send State.reset [0x06, 0x03, 0x01, 0x01, 0x0A, 0x14, 0x1E, 0x00]) =
    some [⟨0, 0, 0⟩, ⟨0, 0, 0⟩, ⟨0, 0, 0⟩, ⟨0, 0, 0⟩, ⟨10, 20, 30⟩, ⟨10, 20, 30⟩, ⟨10, 20, 30⟩, ⟨10, 20, 30⟩] := by decide
theorem test_section_effect : column Pixel.effect (send State.reset [0x06, 0x03, 0x01, 0x02, 0x02, 0x00, 0x00, 0x00]) =
    some [.static, .static, .static, .static, .breatheDown, .breatheDown, .breatheDown, .breatheDown] := by decide
theorem test_section_effect_spaced : column Pixel.phase (send State.reset [0x06, 0x03, 0x01, 0x03, 0x01, 0x00, 0x00, 0x00]) =
    some [0, 0, 0, 0, 0, 63, 127, 191] := by decide
theorem test_section_phase : column Pixel.phase (send State.reset [0x06, 0x03, 0x01, 0x04, 0x80, 0x00, 0x00, 0x00]) =
    some [0, 0, 0, 0, 128, 128, 128, 128] := by decide
theorem test_section_speed : column Pixel.speed (send State.reset [0x06, 0x03, 0x01, 0x05, 0x03, 0x00, 0x00, 0x00]) =
    some [1, 1, 1, 1, 3, 3, 3, 3] := by decide
theorem test_section_brightness : column Pixel.brightness (send State.reset [0x06, 0x03, 0x01, 0x06, 0x40, 0x00, 0x00, 0x00]) =
    some [255, 255, 255, 255, 64, 64, 64, 64] := by decide
theorem test_all_color : column Pixel.base (send State.reset [0x06, 0x04, 0x01, 0x0A, 0x14, 0x1E, 0x00, 0x00]) =
    some [⟨10, 20, 30⟩, ⟨10, 20, 30⟩, ⟨10, 20, 30⟩, ⟨10, 20, 30⟩, ⟨10, 20, 30⟩, ⟨10, 20, 30⟩, ⟨10, 20, 30⟩, ⟨10, 20, 30⟩] := by decide
theorem test_all_effect : column Pixel.effect (send State.reset [0x06, 0x04, 0x02, 0x02, 0x00, 0x00, 0x00, 0x00]) =
    some [.breatheDown, .breatheDown, .breatheDown, .breatheDown, .breatheDown, .breatheDown, .breatheDown, .breatheDown] := by decide
theorem test_all_effect_spaced : column Pixel.phase (send State.reset [0x06, 0x04, 0x03, 0x01, 0x00, 0x00, 0x00, 0x00]) =
    some [0, 31, 63, 95, 127, 159, 191, 223] := by decide
theorem test_all_phase : column Pixel.phase (send State.reset [0x06, 0x04, 0x04, 0x80, 0x00, 0x00, 0x00, 0x00]) =
    some [128, 128, 128, 128, 128, 128, 128, 128] := by decide
theorem test_all_speed : column Pixel.speed (send State.reset [0x06, 0x04, 0x05, 0x03, 0x00, 0x00, 0x00, 0x00]) =
    some [3, 3, 3, 3, 3, 3, 3, 3] := by decide
theorem test_all_brightness : column Pixel.brightness (send State.reset [0x06, 0x04, 0x06, 0x40, 0x00, 0x00, 0x00, 0x00]) =
    some [64, 64, 64, 64, 64, 64, 64, 64] := by decide

/-! ### Failures (95_test_vectors.md 2.3): response and unchanged records, from LEDSET.ALL.PHASE 7 -/

/-- The start state of section 2.3. -/
def phase7 : State := State.reset.withPix (List.replicate 8 { resetDefaults with phase := 7 })

/-- The response, its cause, and whether every Pixel Record is as before. -/
def failure (req : List Byte) : Option (List Byte × PortOut × Bool) :=
  (send phase7 req).map fun t => (t.buf, t.port, decide (t.pix = phase7.pix))

theorem test_failure_f2 : failure [0x06, 0x01, 0x08, 0x01, 0x01, 0x02, 0x03, 0x00] = some ([0xFF, 0x01, 0x08, 0x01, 0x01, 0x02, 0x03, 0x00], .response (some .index), true) := by decide
theorem test_failure_f8 : failure [0x06, 0x02, 0x03, 0x02, 0x06, 0x09, 0x00, 0x00] = some ([0xFF, 0x02, 0x03, 0x02, 0x06, 0x09, 0x00, 0x00], .response (some .range), true) := by decide
theorem test_failure_f10 : failure [0x06, 0x02, 0x08, 0x03, 0x06, 0x09, 0x00, 0x00] = some ([0xFF, 0x02, 0x08, 0x03, 0x06, 0x09, 0x00, 0x00], .response (some .index), true) := by decide
theorem test_failure_f15 : failure [0x06, 0x03, 0xFF, 0x01, 0x01, 0x02, 0x03, 0x00] = some ([0xFF, 0x03, 0xFF, 0x01, 0x01, 0x02, 0x03, 0x00], .response (some .sectionId), true) := by decide
theorem test_failure_f17 : failure [0x06, 0x05, 0x00, 0x01, 0x01, 0x02, 0x03, 0x00] = some ([0xFF, 0x05, 0x00, 0x01, 0x01, 0x02, 0x03, 0x00], .response (some .mode), true) := by decide
theorem test_failure_f23 : failure [0x06, 0x01, 0x09, 0x07, 0x01, 0x00, 0x00, 0x00] = some ([0xFF, 0x01, 0x09, 0x07, 0x01, 0x00, 0x00, 0x00], .response (some .kind), true) := by decide
theorem test_failure_f24 : failure [0x06, 0x01, 0x09, 0x02, 0x09, 0x00, 0x00, 0x00] = some ([0xFF, 0x01, 0x09, 0x02, 0x09, 0x00, 0x00, 0x00], .response (some .index), true) := by decide
theorem test_failure_f25 : failure [0x06, 0x02, 0x00, 0x03, 0x02, 0x04, 0x00, 0x00] = some ([0xFF, 0x02, 0x00, 0x03, 0x02, 0x04, 0x00, 0x00], .response (some .effect), true) := by decide
theorem test_failure_meta : failure [0x04, 0x03, 0x00, 0x00, 0x00, 0x00, 0x00, 0x00] = some ([0xFF, 0x03, 0x00, 0x00, 0x00, 0x00, 0x00, 0x00], .response (some .subId), true) := by decide
theorem test_failure_unknown : failure [0x80, 0x01, 0x02, 0x03, 0x00, 0x00, 0x00, 0x00] = some ([0xFF, 0x01, 0x02, 0x03, 0x00, 0x00, 0x00, 0x00], .response (some .opcode), true) := by decide
theorem test_f7_spread : column Pixel.phase (send phase7 [0x06, 0x02, 0x02, 0x04, 0x03, 0x01, 0, 0]) = some [7, 7, 0, 85, 170, 7, 7, 7] := by decide
theorem test_f26_trailing_bytes_echoed : rsp (send phase7 [0x06, 0x01, 0x02, 0x02, 0x03, 0xAA, 0xBB, 0xCC]) =
    some [0x06, 0x01, 0x02, 0x02, 0x03, 0xAA, 0xBB, 0xCC] := by decide

/-! ### Queries and foreign messages (95_test_vectors.md 2.8) -/

theorem test_ledcount : rsp (send State.reset [4, 1, 0xAA, 0xBB, 0xCC, 0xDD, 0xEE, 0x99]) = some [4, 8, 0xAA, 0xBB, 0xCC, 0xDD, 0xEE, 0x99] := by decide
theorem test_sectioncount : rsp (send State.reset [4, 2, 0, 0, 0, 0, 0, 0]) = some [4, 3, 0, 0, 0, 0, 0, 0] := by decide
theorem test_ledget : rsp (send State.reset [5, 0xFF, 1, 2, 3, 4, 5, 6]) = some [5, 0xFF, 1, 2, 3, 4, 5, 6] := by decide
theorem test_foreign_keeps_pixels : (send phase7 [1, 0, 0, 0, 0, 0, 0, 0]).map (fun t => (t.pix, t.buf.length, t.inBootloader)) =
    some (phase7.pix, 8, false) := by decide
theorem test_bootloader_is_remembered : (send phase7 [0xFE, 0, 0, 0, 0, 0, 0, 0]).map (fun t => (t.pix, t.inBootloader)) =
    some (phase7.pix, true) := by decide

/-! ### TICK, the effects and COMPOSE (95_test_vectors.md 2.5 to 2.7) -/

theorem test_static : (tick0 (pixelOf ⟨9, 8, 7⟩ .static 0 1) 0).map (fun p => (p.out, p.phase)) = some (⟨9, 8, 7⟩, 1) := by decide
theorem test_breathe_up_wrap : (tick0 (pixelOf ⟨200, 200, 200⟩ .breatheUp 255 1) 1).map (fun p => (p.out, p.phase, p.env)) =
    some (⟨200, 200, 200⟩, 0, 1) := by decide
theorem test_breathe_up_63 : (tick0 (pixelOf ⟨200, 100, 50⟩ .breatheUp 63 1) 0).map Pixel.out = some ⟨49, 24, 12⟩ := by decide
theorem test_breathe_down_63 : (tick0 (pixelOf ⟨200, 100, 50⟩ .breatheDown 63 1) 0).map Pixel.out = some ⟨150, 75, 37⟩ := by decide
theorem test_color_cycle_84 : (tick0 (pixelOf ⟨9, 9, 9⟩ .colorCycle 84 1) 0).map (fun p => (p.out, p.phase)) = some (⟨6, 255, 0⟩, 85) := by decide
theorem test_hsl_corners : [0, 1, 42, 43, 85, 128, 170, 213, 254, 255].map hslTable =
    [⟨255, 0, 0⟩, ⟨255, 6, 0⟩, ⟨255, 252, 0⟩, ⟨252, 255, 0⟩, ⟨0, 255, 0⟩, ⟨0, 252, 255⟩, ⟨0, 0, 255⟩, ⟨255, 0, 252⟩, ⟨255, 0, 6⟩,
      ⟨255, 0, 0⟩] := by decide
theorem test_speed_zero : (tick0 (pixelOf ⟨100, 100, 100⟩ .breatheUp 51 0) 0).map (fun p => (p.out, p.phase)) =
    some (⟨20, 20, 20⟩, 51) := by decide
theorem test_no_advance_off_beat : (tick0 (pixelOf ⟨255, 255, 255⟩ .breatheUp 255 3) 2).map (fun p => (p.phase, p.env)) = some (255, 0) := by decide
theorem test_static_wrap_counts_nothing : (tick0 (pixelOf ⟨0, 0, 0⟩ .static 255 1) 0).map (fun p => (p.phase, p.env)) = some (0, 0) := by decide
theorem test_largest_tick_count : ([1, 2, 3, 5, 15, 16, 255].map fun v => advances v 4294967295) = [true, false, true, true, true, false, true] := by
  decide
theorem test_compose : (after (onePixel { resetDefaults with out := ⟨254, 2, 127⟩, brightness := 254 }) (.op .compose)).map State.port =
    some (.frame (⟨253, 1, 126⟩ :: List.replicate 7 ⟨0, 0, 0⟩)) := by decide
theorem test_compose_brightness_128 : project { resetDefaults with out := ⟨16, 128, 255⟩, brightness := 128 } = ⟨8, 64, 128⟩ := by decide

/-! ### Reset (95_test_vectors.md 2.9) -/

theorem test_reset_event : (after (phase7.withInBootloader true) (.reset (some .compose))).map (fun t => (t.pix, t.inBootloader, t.port)) =
    some (State.reset.pix, false, .nothing) := by decide

/-! ### Witnesses: concrete states and operands that meet each statement's hypotheses together -/

theorem witness_DecodeEncodeRoundTrip :
    ((Instr.ledsetMultipleColor 1 5 10 20 30).wellFormed = true ∧ 8 ≤ (encode (.ledsetMultipleColor 1 5 10 20 30) ++ []).length) ∧
    (Instr.ledget.wellFormed = true ∧ 8 ≤ (encode .ledget ++ List.replicate 7 (9 : Byte)).length) := by decide
theorem witness_DecodedMessageBeginsWithItsEncoding : decode [6, 4, 6, 0x40, 1, 2, 3, 4] = .command (.ledsetAllBrightness 0x40) := by decide
theorem witness_StepRunsDecodedCommand :
    (taking (.op (.command [6, 4, 6, 0x40, 1, 2, 3, 4]))).queue = .op (.command [6, 4, 6, 0x40, 1, 2, 3, 4]) :: [] ∧
    (taking (.op (.command [6, 4, 6, 0x40, 1, 2, 3, 4]))).inBootloader = false ∧
    [6, 4, 6, 0x40, 1, 2, 3, (4 : Byte)].length = State.reset.cfg.msgLen ∧
    decode [6, 4, 6, 0x40, 1, 2, 3, 4] = .command (.ledsetAllBrightness 0x40) ∧
    (Instr.ledsetAllBrightness 0x40).wellFormed = true := by decide
theorem witness_StepRunsPortOperations :
    ((taking (.op (.tick 7))).inBootloader = false ∧ (taking (.op (.tick 7))).queue = .op (.tick 7) :: []) ∧
    ((taking (.op .compose)).inBootloader = false ∧ (taking (.op .compose)).queue = .op .compose :: []) := by decide
theorem witness_UndecodableMessageFails :
    (taking (.op (.command [6, 5, 0, 0, 0, 0, 0, 0]))).queue = .op (.command [6, 5, 0, 0, 0, 0, 0, 0]) :: [] ∧
    State.reset.inBootloader = false ∧ [6, 5, 0, 0, 0, 0, 0, (0 : Byte)].length = State.reset.cfg.msgLen ∧
    decode [6, 5, 0, 0, 0, 0, 0, 0] = .fail .mode := by decide
theorem witness_UnknownOpcodeAnswersSentinel :
    ∀ b ∈ ([0x00, 0x07, 0xFD, 0xFF] : List Byte),
      (taking (.op (.command (b :: List.replicate 7 1)))).queue = .op (.command (b :: List.replicate 7 1)) :: [] ∧
      (taking (.op (.command (b :: List.replicate 7 1)))).inBootloader = false ∧ 8 ≤ State.reset.cfg.msgLen ∧
      (b :: List.replicate 7 (1 : Byte)).length = State.reset.cfg.msgLen ∧
      (b.toNat = 0 ∨ (7 ≤ b.toNat ∧ b.toNat ≤ 0xFD) ∨ b.toNat = 0xFF) := by decide
theorem witness_EveryFailureChangesNothingButByteZero :
    ∃ t, step (taking (.op (.command [6, 1, 8, 6, 1, 0, 0, 0]))) = .next t ∧ t.port = .response (some .index) ∧
      (taking (.op (.command [6, 1, 8, 6, 1, 0, 0, 0]))).queue = .op (.command [6, 1, 8, 6, 1, 0, 0, 0]) :: [] := ⟨_, rfl, rfl, rfl⟩
theorem witness_ForeignMessageChangesNoEngineState :
    ∀ b ∈ ([1, 2, 3, 0xFE] : List Byte), (taking (.op (.command (b :: List.replicate 7 0)))).inBootloader = false ∧
      (taking (.op (.command (b :: List.replicate 7 0)))).queue = .op (.command (b :: List.replicate 7 0)) :: [] ∧
      (b :: List.replicate 7 (0 : Byte)).length = State.reset.cfg.msgLen ∧
      (b = 1 ∧ decode (b :: List.replicate 7 0) = .foreign .protocolVersion ∨ b = 2 ∧ decode (b :: List.replicate 7 0) = .foreign .teamNumber ∨
        b = 3 ∧ decode (b :: List.replicate 7 0) = .foreign .controllerState ∨
        b = 0xFE ∧ decode (b :: List.replicate 7 0) = .foreign .enterBootloader) := by decide
theorem witness_NothingRunsAfterEnterBootloader :
    ∀ e ∈ ([.op (.tick 0), .reset none] : List Event),
      (State.reset.withQueue [.op (.command (0xFE :: List.replicate 7 0)), e]).queue = .op (.command (0xFE :: List.replicate 7 0)) :: e :: [] ∧
      (State.reset.withQueue [.op (.command (0xFE :: List.replicate 7 0)), e]).inBootloader = false ∧
      ((0xFE : Byte) :: List.replicate 7 0).length = State.reset.cfg.msgLen ∧ 8 ≤ State.reset.cfg.msgLen ∧
      ((0xFE : Byte) :: List.replicate 7 0)[0]? = some 0xFE := by decide
theorem witness_ResetEventRestoresEveryField : (taking (.reset (some .compose))).queue = .reset (some .compose) :: [] := by decide
theorem witness_ResetStateHoldsTheSpecDefaults : State.reset.led 0 = some resetDefaults ∧ State.reset.led 7 = some resetDefaults := by decide
theorem witness_StepKeepsLegalStates : (taking (.op (.tick 0))).Wf ∧ ∃ t, step (taking (.op (.tick 0))) = .next t := ⟨by decide, _, rfl⟩
theorem witness_ConfigurationIsReadOnly :
    (∃ t, step (taking (.reset none)) = .next t) ∧ (taking (.reset none)).pix.length = (taking (.reset none)).cfg.ledCount :=
  ⟨⟨_, rfl⟩, by decide⟩
theorem witness_EveryAcceptedOperationCompletes :
    ((taking (.op (.tick 3))).queue = .op (.tick 3) :: [] ∧ State.reset.inBootloader = false ∧ 8 ≤ State.reset.cfg.msgLen) ∧
    (∀ req, Op.tick 3 = .command req → req.length = State.reset.cfg.msgLen) ∧
    (taking (.op (.command (List.replicate 8 7)))).queue = .op (.command (List.replicate 8 7)) :: [] ∧
    (∀ req, Op.command (List.replicate 8 7) = .command req → req.length = State.reset.cfg.msgLen) :=
  ⟨by decide, nofun, rfl, fun _ h => by cases h; rfl⟩
theorem witness_IdleEngineKeepsItsState : State.reset.queue = [] := by decide
theorem witness_MessageOfAnotherLengthIsNoTransaction :
    (taking (.op (.command [6, 4, 6, 1, 0, 0, 0]))).queue = .op (.command [6, 4, 6, 1, 0, 0, 0]) :: [] ∧
    (taking (.op (.command [6, 4, 6, 1, 0, 0, 0]))).inBootloader = false ∧ [6, 4, 6, 1, 0, 0, (0 : Byte)].length ≠ State.reset.cfg.msgLen := by
  decide
/-- Boundary operands for the range clauses of the six fill statements (one state, so one witness serves the six). -/
theorem witness_fill_ranges :
    (((0 : Byte).toNat < State.reset.cfg.ledCount ∧ (7 : Byte).toNat < State.reset.cfg.ledCount) ∧
    ((0 : Byte).toNat ≤ (7 : Byte).toNat ∧ (7 : Byte).toNat ≤ (7 : Byte).toNat) ∧
    State.reset.cfg.sections[(0 : Byte).toNat]? = some ⟨0, 3⟩ ∧ State.reset.cfg.sections[(2 : Byte).toNat]? = some ⟨0, 7⟩) := by decide
theorem witness_BrightnessFillWritesBrightness : State.reset.Wf ∧ State.reset.led 7 = some resetDefaults := by decide
theorem witness_SpreadPhaseFitsItsByte : (0 ≤ 0 ∧ 0 ≤ 254) ∧ (0 ≤ 254 ∧ 254 ≤ 254) := by decide
theorem witness_SingleIndexMustExist :
    (State.reset.cfg.ledCount ≤ (8 : Byte).toNat ∧
      Instr.ledsetSingleEffect 8 3 ∈ ([.ledsetSingleColor 8 0 0 0, .ledsetSingleEffect 8 3, .ledsetSingleEffectSpaced 8 3,
        .ledsetSinglePhase 8 0, .ledsetSingleSpeed 8 0, .ledsetSingleBrightness 8 0] : List Instr)) ∧
    ((7 : Byte).toNat < State.reset.cfg.ledCount ∧ Effect.colorCycle.toByte = 3 ∧
      ∃ t, exec (.ledsetSingleSpeed 7 9) State.reset = .next t ∧ t.led 7 = some { resetDefaults with speed := 9 } ∧
        t.led 6 = some resetDefaults) := ⟨by decide, by decide, by decide, _, rfl, rfl, rfl⟩
theorem witness_MultipleRangeMustExistAndRise :
    (State.reset.cfg.ledCount ≤ (8 : Byte).toNat) ∧ ((7 : Byte).toNat < State.reset.cfg.ledCount ∧ (6 : Byte).toNat < (7 : Byte).toNat) ∧
    Instr.ledsetMultipleSpeed 7 6 0 ∈ ([.ledsetMultipleColor 7 6 0 0 0, .ledsetMultipleEffect 7 6 0, .ledsetMultipleEffectSpaced 7 6 0,
      .ledsetMultiplePhase 7 6 0, .ledsetMultipleSpeed 7 6 0, .ledsetMultipleBrightness 7 6 0] : List Instr) := by decide
theorem witness_SectionIdMustExist : State.reset.cfg.sectionCount ≤ (3 : Byte).toNat ∧
    Instr.ledsetSectionPhase 3 0 ∈ ([.ledsetSectionColor 3 0 0 0, .ledsetSectionEffect 3 0, .ledsetSectionEffectSpaced 3 0,
      .ledsetSectionPhase 3 0, .ledsetSectionSpeed 3 0, .ledsetSectionBrightness 3 0] : List Instr) := by decide
theorem witness_EffectIdMustBeInTable : 4 ≤ (4 : Byte).toNat ∧ (7 : Byte).toNat < State.reset.cfg.ledCount ∧
    ((0 : Byte).toNat ≤ (7 : Byte).toNat ∧ (7 : Byte).toNat < State.reset.cfg.ledCount) ∧
    (2 : Byte).toNat < State.reset.cfg.sectionCount := by decide
theorem witness_CommandSucceedsIffOperandsNameSomething :
    ((Instr.ledsetSectionEffect 2 3).wellFormed = true ∧ (Instr.ledsetSectionEffect 2 3).operandsOk State.reset.cfg = true) ∧
    ((Instr.ledsetSectionEffect 3 3).wellFormed = true ∧ (Instr.ledsetSectionEffect 3 3).operandsOk State.reset.cfg = false) := by decide
theorem witness_LedsetWritesOnlyWhatItsBytesSay : isLedset (.ledsetMultipleEffectSpaced 1 7 1) = true ∧
    targetRange State.reset.cfg (.ledsetMultipleEffectSpaced 1 7 1) = some (1, 7) ∧
    targetRange State.reset.cfg (.ledsetMultipleEffectSpaced 1 8 1) = none ∧
    State.reset.cfg = phase7.cfg ∧ State.reset.buf = phase7.buf ∧
    ∃ t t', exec (.ledsetMultipleEffectSpaced 1 7 1) State.reset = .next t ∧
      exec (.ledsetMultipleEffectSpaced 1 7 1) phase7 = .next t' :=
  ⟨by decide, by decide, by decide, by decide, by decide, _, _, rfl, rfl⟩
theorem witness_EachFieldHasOnlyItsWriters : ∃ t p', exec (.ledsetSingleColor 2 1 2 3) State.reset = .next t ∧
    State.reset.led 2 = some resetDefaults ∧ t.led 2 = some p' ∧ p'.base = ⟨1, 2, 3⟩ := ⟨_, _, rfl, rfl, rfl, rfl⟩
theorem witness_LedsetIsIdempotent : isLedset (.ledsetAllEffectSpaced 1) = true ∧
    ∃ t, exec (.ledsetAllEffectSpaced 1) State.reset = .next t ∧ t.port = .response none := ⟨by decide, _, rfl, rfl⟩
theorem witness_EveryModeIsAnExplicitRange : State.reset.Wf ∧ State.reset.cfg.sections[(1 : Byte).toNat]? = some ⟨4, 7⟩ := by decide
theorem witness_CountQueriesReplyInByteOne : State.reset.Wf := by decide
theorem witness_TickEvolvesEveryPixel : State.reset.led 7 = some resetDefaults ∧ State.reset.led 8 = none := by decide
theorem witness_StaticShowsItsBase : State.reset.led 0 = some resetDefaults ∧ resetDefaults.effect = .static ∧
    resetDefaults.speed.toNat ≠ 0 ∧ (5 : TickCount).toNat % resetDefaults.speed.toNat = 0 ∧
    ∃ t q', exec (.tick 5) State.reset = .next t ∧ State.reset.led 7 = some resetDefaults ∧ t.led 7 = some q' :=
  ⟨by decide, by decide, by decide, by decide, _, _, rfl, rfl, rfl⟩
theorem witness_BreathingScalesTheBase :
    ((onePixel (pixelOf ⟨1, 2, 3⟩ .breatheUp 255 1)).led 0 = some (pixelOf ⟨1, 2, 3⟩ .breatheUp 255 1) ∧
      (pixelOf ⟨1, 2, 3⟩ .breatheUp 255 1).effect = .breatheUp ∧ 255 = (pixelOf ⟨1, 2, 3⟩ .breatheUp 255 1).phase.toNat) ∧
    ((onePixel (pixelOf ⟨1, 2, 3⟩ .breatheDown 0 1)).led 0 = some (pixelOf ⟨1, 2, 3⟩ .breatheDown 0 1) ∧
      (pixelOf ⟨1, 2, 3⟩ .breatheDown 0 1).effect = .breatheDown ∧ 255 = 255 - (pixelOf ⟨1, 2, 3⟩ .breatheDown 0 1).phase.toNat) := by decide
theorem witness_ColorCycleSweepsTheWheel :
    ((onePixel (pixelOf ⟨9, 9, 9⟩ .colorCycle 255 1)).led 0 = some (pixelOf ⟨9, 9, 9⟩ .colorCycle 255 1) ∧
      (pixelOf ⟨9, 9, 9⟩ .colorCycle 255 1).effect = .colorCycle ∧ State.reset.cfg.hslPatch.lookup 255 = none) ∧
    (State.powerOn { Cfg.testConfig with
      hslPatch := [(255, ⟨254, 0, 0⟩)], resetPixel := pixelOf ⟨9, 9, 9⟩ .colorCycle 255 1 }).led 0 =
        some (pixelOf ⟨9, 9, 9⟩ .colorCycle 255 1) ∧
    List.lookup (255 : Byte) [(255, (⟨254, 0, 0⟩ : Colour))] = some ⟨254, 0, 0⟩ := by decide
theorem witness_TickTreatsPixelsAlone : ∃ t t', State.reset.cfg.hslPatch = phase7.cfg.hslPatch ∧
    (State.reset.withPix phase7.pix).led 0 = phase7.led 7 ∧ exec (.tick 0) (State.reset.withPix phase7.pix) = .next t ∧
    exec (.tick 0) phase7 = .next t' := ⟨_, _, rfl, rfl, rfl, rfl⟩
theorem witness_SpeedZeroFreezesThePhase :
    (onePixel (pixelOf ⟨1, 1, 1⟩ .breatheUp 51 0)).led 0 = some (pixelOf ⟨1, 1, 1⟩ .breatheUp 51 0) ∧
    (pixelOf ⟨1, 1, 1⟩ .breatheUp 51 0).speed = 0 ∧ ([0, 1] : List TickCount) ≠ [] := by decide
theorem witness_ConsecutiveTicksAdvanceOncePerDivisor :
    (onePixel (pixelOf ⟨1, 1, 1⟩ .static 9 255)).led 0 = some (pixelOf ⟨1, 1, 1⟩ .static 9 255) ∧
    (pixelOf ⟨1, 1, 1⟩ .static 9 255).speed ≠ 0 ∧ 4294967041 + (pixelOf ⟨1, 1, 1⟩ .static 9 255).speed.toNat ≤ 2 ^ 32 := by decide
theorem witness_EnvelopeCounterIsUnobservable :
    SameButEnv State.reset (onePixel { resetDefaults with env := 3 }) ∧ ∃ s', execAll [.tick 0, .compose] State.reset = .next s' :=
  ⟨⟨by decide, rfl, rfl, rfl, rfl, rfl, rfl⟩, _, rfl⟩
theorem witness_FrameIsOutputScaledByBrightness : State.reset.led 7 = some resetDefaults := by decide
theorem witness_ComposeIsAReadOnlyProjection : ∃ t t', exec .compose State.reset = .next t ∧ exec .compose phase7 = .next t' ∧
    phase7.pix.map (fun p => (p.out, p.brightness)) = State.reset.pix.map (fun p => (p.out, p.brightness)) :=
  ⟨_, _, rfl, rfl, by decide⟩
theorem witness_FillsShowAfterATickBrightnessAtOnce :
    ((∀ i ∈ ([.ledsetAllColor 1 2 3, .ledsetSingleSpeed 8 0] : List Instr), isTick i = false ∧ isBrightness i = false) ∧
      (∃ t u, execAll ([.ledsetAllColor 1 2 3, .ledsetSingleSpeed 8 0] ++ [.compose]) State.reset = .next t ∧
        exec .compose State.reset = .next u)) ∧
    targetRange State.reset.cfg (.ledsetSingleBrightness 7 9) = some (7, 7) ∧
    targetRange State.reset.cfg (.ledsetMultipleBrightness 0 7 9) = some (0, 7) ∧
    targetRange State.reset.cfg (.ledsetSectionBrightness 2 9) = some (0, 7) ∧
    targetRange State.reset.cfg (.ledsetAllBrightness 9) = some (0, 7) :=
  ⟨⟨by decide, _, _, rfl, rfl⟩, by decide, by decide, by decide, by decide⟩
theorem witness_OutputChangesOnlyByTickOrReset :
    (∃ t, step (taking (.op .compose)) = .next t) ∧ (∀ n q, (taking (.op .compose)).queue ≠ .op (.tick n) :: q) ∧
    (∀ ab q, (taking (.op .compose)).queue ≠ .reset ab :: q) := ⟨⟨_, rfl⟩, nofun, nofun⟩
theorem witness_InitialisationFixesThePicture : State.reset.Wf ∧ phase7.Wf ∧ State.reset.cfg = phase7.cfg ∧
    Instr.ledsetAllEffectSpaced 3 = .ledsetAllEffectSpaced Effect.colorCycle.toByte ∧
    Instr.ledsetAllEffect 0 = .ledsetAllEffect Effect.static.toByte := by decide

end Sys2Proof.Machine.Tests
end

section
/-! LAW. Colour arithmetic: `scale255` (spec/00_scope.md R14), its bounds, its value and its identities.
The identities write their literals as `simp` normalises them (`255#8`), so that they fire. -/

namespace Sys2Proof.Machine.ColourArithmetic

/-- R14's product bound, `255 * 255`: the product fits 16 bits. -/
theorem scale255_product_le (c k : Byte) : c.toNat * k.toNat ≤ 65025 :=
  Nat.mul_le_mul (Nat.le_of_lt_succ c.isLt) (Nat.le_of_lt_succ k.isLt)

/-- R14's result bound: the quotient fits a byte. -/
theorem scale255_quotient_le (c k : Byte) : c.toNat * k.toNat / 255 ≤ 255 :=
  Nat.div_le_div_right (c := 255) (scale255_product_le c k)

/-- The truncation to a byte in `scale255` loses nothing, since the quotient fits (R14: no clamp is ever applied). -/
@[simp] theorem scale255_toNat (c k : Byte) : (scale255 c k).toNat = c.toNat * k.toNat / 255 :=
  (BitVec.toNat_ofNat _ 8).trans (Nat.mod_eq_of_lt (Nat.lt_succ_of_le (scale255_quotient_le c k)))

theorem scale255_comm (c k : Byte) : scale255 c k = scale255 k c :=
  BitVec.eq_of_toNat_eq (by rw [scale255_toNat, scale255_toNat, Nat.mul_comm])

@[simp] theorem scale255_full (c : Byte) : scale255 c 255#8 = c :=
  BitVec.eq_of_toNat_eq ((scale255_toNat c 255#8).trans (Nat.mul_div_cancel c.toNat (by decide)))

@[simp] theorem scale255_zero (c : Byte) : scale255 c 0#8 = 0#8 :=
  BitVec.eq_of_toNat_eq ((scale255_toNat c 0#8).trans (Nat.zero_div 255))

@[simp] theorem full_scale255 (k : Byte) : scale255 255#8 k = k :=
  (scale255_comm 255#8 k).trans (scale255_full k)

@[simp] theorem zero_scale255 (k : Byte) : scale255 0#8 k = 0#8 :=
  (scale255_comm 0#8 k).trans (scale255_zero k)

@[simp] theorem scaleColour_mk (r g b k : Byte) :
    scaleColour ⟨r, g, b⟩ k = ⟨scale255 r k, scale255 g k, scale255 b k⟩ := rfl

/-- Settles O1: the result bound makes the quotient exact (`scale255_toNat`), and the identities are that quotient at 255
and at 0. -/
theorem scaleMultipliesThenDividesExactly : Obligations.ScaleMultipliesThenDividesExactly :=
  ⟨fun c k => ⟨scale255_toNat c k, scale255_product_le c k, scale255_quotient_le c k, scale255_full c, scale255_zero c,
    full_scale255 k, zero_scale255 k⟩, scaleColour_mk⟩

end Sys2Proof.Machine.ColourArithmetic
end

section
/-! LAW. R113, the noninterference of LEDSET: what a form writes to an LED is a function of its value bytes, the LED's index
and the resolved bounds (`ledsetWrites`), and how it ends is a function of its bytes and the configuration
(`ledsetResult`). -/

namespace Sys2Proof.Machine.LedsetWrites

/-- What a fill assigns to the attributes of one Pixel Record, `none` where it leaves the attribute. There is no entry for
`out` and `env`, which no attribute touches (`Attr.apply_out_env`). -/
structure Writes where
  base : Option Colour := none
  effect : Option Effect := none
  phase : Option Byte := none
  speed : Option Byte := none
  brightness : Option Byte := none

/-- The record with the assignments made. -/
def Writes.on (w : Writes) (p : Pixel) : Pixel where
  base := w.base.getD p.base
  effect := w.effect.getD p.effect
  phase := w.phase.getD p.phase
  speed := w.speed.getD p.speed
  brightness := w.brightness.getD p.brightness
  out := p.out
  env := p.env

@[simp] theorem Writes.on_nothing : Writes.on {} = id := rfl

/-- What an attribute assigns to LED `i` of the range `a..b` (R106 to R111); `apply_eq_writes_on` ties it to the model. -/
def attrWrites (i a b : Nat) : Attr → Writes
  | .color c => { base := some c }
  | .effect e => { effect := some e, phase := some 0 }
  | .effectSpaced e => { effect := some e, phase := some (spread i a b) }
  | .phase v => { phase := some v }
  | .speed v => { speed := some v }
  | .brightness v => { brightness := some v }

theorem apply_eq_writes_on (i a b : Nat) (x : Attr) (p : Pixel) : x.apply i a b p = (attrWrites i a b x).on p := by
  cases x <;> rfl

/-- What an LEDSET of value `val` assigns to LED `k` once its bounds are `a..b`: nothing outside them, and nothing at all
for a value that fails validation (R105). It takes no state; `ledSet_led_of_resolve` ties it to the model. -/
def ledsetWrites (val : Value) (a b k : Nat) : Writes :=
  match validate val with
  | .error _ => {}
  | .ok x => if a ≤ k ∧ k ≤ b then attrWrites k a b x else {}

theorem ledsetWrites_of_invalid {val : Value} {c : FailCause} (hv : validate val = .error c) (a b k : Nat) :
    ledsetWrites val a b k = {} := by
  simp only [ledsetWrites, hv]

theorem ledsetWrites_of_valid {val : Value} {x : Attr} (hv : validate val = .ok x) (a b k : Nat) :
    ledsetWrites val a b k = if a ≤ k ∧ k ≤ b then attrWrites k a b x else {} := by
  simp only [ledsetWrites, hv]

theorem ledsetWrites_outside (val : Value) {a b k : Nat} (hk : k < a ∨ b < k) : ledsetWrites val a b k = {} := by
  cases hv : validate val with
  | error c => exact ledsetWrites_of_invalid hv a b k
  | ok x => rw [ledsetWrites_of_valid hv, if_neg (by omega)]

/-- LEDSET's effect on the Pixel Records, from every state where its selector resolves to `a..b`. -/
theorem ledSet_led_of_resolve {s : State} {sel : Selector} {a b : Nat} (hr : resolve s.cfg sel = .ok (a, b))
    (val : Value) (k : Nat) : (s.ledSet sel val).led k = (s.led k).map (ledsetWrites val a b k).on := by
  cases hv : validate val with
  | error c =>
    obtain ⟨hpix, -⟩ := s.raise_spec c
    rw [State.ledSet_value_error hr hv, State.led_congr hpix, ledsetWrites_of_invalid hv]
    simp
  | ok x =>
    obtain ⟨hpix, -⟩ := (s.fillRange a b x).complete_spec
    rw [State.ledSet_ok hr hv, State.led_congr hpix, State.fillRange_led, ledsetWrites_of_valid hv]
    split
    · simp only [apply_eq_writes_on]
    · simp

/-- A selector that names no range stops the command before its first write (R105). -/
theorem ledSet_pix_of_unresolved {s : State} {sel : Selector} {c : FailCause} (hr : resolve s.cfg sel = .error c)
    (val : Value) : (s.ledSet sel val).pix = s.pix := by
  obtain ⟨hpix, -⟩ := s.raise_spec c
  rw [State.ledSet_selector_error val hr, hpix]

/-- How an LEDSET ends under the configuration `c`, with the selector checked before the value (R193): its failure, or
none. It takes no Pixel Record; `ledSet_buf` ties it to the model. -/
def ledsetResult (c : Cfg) (sel : Selector) (val : Value) : Option FailCause :=
  match resolve c sel, validate val with
  | .error cause, _ => some cause
  | .ok _, .error cause => some cause
  | .ok _, .ok _ => none

theorem ledSet_buf (s : State) (sel : Selector) (val : Value) :
    (s.ledSet sel val).buf = responseTo s.buf (ledsetResult s.cfg sel val) := by
  obtain ⟨c, hr, h⟩ | ⟨a, b, c, hr, hv, h⟩ | ⟨a, b, x, hr, hv, h⟩ := s.ledSet_cases sel val
  · obtain ⟨-, hbuf, -⟩ := s.raise_spec c
    simp only [h, hbuf, ledsetResult, hr, responseTo_failure]
  · obtain ⟨-, hbuf, -⟩ := s.raise_spec c
    simp only [h, hbuf, ledsetResult, hr, hv, responseTo_failure]
  · obtain ⟨-, hbuf, -⟩ := (s.fillRange a b x).complete_spec
    obtain ⟨-, hfill, -⟩ := s.fillRange_frame a b x
    simp only [h, hbuf, hfill, ledsetResult, hr, hv, responseTo_success]

theorem ledSet_buf_congr {s s' : State} (hcfg : s.cfg = s'.cfg) (hbuf : s.buf = s'.buf) (sel : Selector) (val : Value) :
    (s.ledSet sel val).buf = (s'.ledSet sel val).buf := by
  rw [ledSet_buf, ledSet_buf, hcfg, hbuf]

theorem resolve_of_targetRange {i : Instr} {sel : Selector} {val : Value} (parts : ledsetParts i = some (sel, val))
    {c : Cfg} {r : Nat × Nat} (h : targetRange c i = some r) : resolve c sel = .ok r := by
  rw [targetRange_eq_resolve parts] at h
  cases hr : resolve c sel with
  | error cause => simp [hr, Except.toOption] at h
  | ok r' => simpa [hr, Except.toOption] using h

theorem resolve_of_no_targetRange {i : Instr} {sel : Selector} {val : Value} (parts : ledsetParts i = some (sel, val))
    {c : Cfg} (h : targetRange c i = none) : ∃ cause, resolve c sel = .error cause := by
  rw [targetRange_eq_resolve parts] at h
  cases hr : resolve c sel with
  | error cause => exact ⟨cause, rfl⟩
  | ok r => simp [hr, Except.toOption] at h

/-- Settles O34: the form's parts give its assignments (`ledsetWrites`), chosen from the value and the bounds before any
state. -/
theorem ledsetWritesOnlyWhatItsBytesSay : Obligations.LedsetWritesOnlyWhatItsBytesSay := by
  intro i hi
  obtain ⟨sel, val, parts⟩ := (isLedset_iff_parts i).mp hi
  have run := exec_of_ledsetParts parts
  refine ⟨fun a b => ⟨fun k => (ledsetWrites val a b k).base, fun k => (ledsetWrites val a b k).effect,
    fun k => (ledsetWrites val a b k).phase, fun k => (ledsetWrites val a b k).speed,
    fun k => (ledsetWrites val a b k).brightness, fun k hk => ?_, fun s hs => ⟨_, run s, fun k => ?_⟩⟩,
    fun s hs => ?_, fun s s' t t' hcfg hbuf ht ht' => ?_⟩
  · simp [ledsetWrites_outside val hk]
  · exact ledSet_led_of_resolve (resolve_of_targetRange parts hs) val k
  · obtain ⟨cause, hr⟩ := resolve_of_no_targetRange parts hs
    exact ⟨_, run s, ledSet_pix_of_unresolved hr val⟩
  · rw [run, Host.Outcome.next.injEq] at ht ht'
    rw [← ht, ← ht']
    exact ledSet_buf_congr hcfg hbuf sel val

end Sys2Proof.Machine.LedsetWrites
end

section
/-! LAW. What a TICK does to one pixel: its run as one equation (`exec_tick`), the advance condition over numbers
(`advances_iff`), the phase it leaves (`tickPixel_phase`), and the static effect (R153). -/

namespace Sys2Proof.Machine.TickEffects

/-- TICK answers in every state (R150, R163). -/
theorem exec_tick (n : TickCount) (s : State) :
    exec (.tick n) s = .next ((s.withPix (s.pix.map (tickPixel s.cfg n))).withPort .nothing) := rfl

/-- What a completed TICK leaves in LED `i`. -/
theorem tick_led {n : TickCount} {s t : State} (h : exec (.tick n) s = .next t) (i : Nat) :
    t.led i = (s.led i).map (tickPixel s.cfg n) := by
  rw [exec_tick, Host.Outcome.next.injEq] at h
  rw [← h, execTick_led]

/-- The advance condition as R152 states it, with R159's guard. -/
theorem advances_iff (speed : Byte) (n : TickCount) :
    advances speed n = true ↔ speed.toNat ≠ 0 ∧ n.toNat % speed.toNat = 0 := by
  simp [advances, BitVec.toNat_eq]

/-- The phase a TICK leaves is a function of the phase and the speed it found: the effect takes no part (R152). -/
@[simp] theorem tickPixel_phase (c : Cfg) (n : TickCount) (p : Pixel) :
    (tickPixel c n p).phase = if advances p.speed n then p.phase + 1 else p.phase := by
  obtain ⟨-, -, -, -, -, hphase, -⟩ := tickPixel_spec c n p
  exact hphase

theorem tickPixel_phase_of_advances {p : Pixel} {n : TickCount} (h : advances p.speed n = true) (c : Cfg) :
    (tickPixel c n p).phase.toNat = (p.phase.toNat + 1) % 256 := by
  simp [h, BitVec.toNat_add]

theorem tickPixel_phase_congr {p q : Pixel} (hphase : q.phase = p.phase) (hspeed : q.speed = p.speed) (c : Cfg)
    (n : TickCount) : (tickPixel c n q).phase = (tickPixel c n p).phase := by
  rw [tickPixel_phase, tickPixel_phase, hphase, hspeed]

theorem tickPixel_out (c : Cfg) (n : TickCount) (p : Pixel) :
    (tickPixel c n p).out = effectFn c p.effect p.base p.phase := by
  obtain ⟨-, -, -, -, hout, -⟩ := tickPixel_spec c n p
  exact hout

theorem tickPixel_out_of_static {p : Pixel} (h : p.effect = .static) (c : Cfg) (n : TickCount) :
    (tickPixel c n p).out = p.base := by
  rw [tickPixel_out, h, effectFn]

/-- Settles O41: the colour is the static row of `effectFn`, and the phase does not depend on the effect
(`tickPixel_phase_congr`). -/
theorem staticShowsItsBase : Obligations.StaticShowsItsBase := by
  intro s n i p hp hstatic
  have run := exec_tick n s
  refine ⟨_, tickPixel s.cfg n p, run, ?_, tickPixel_out_of_static hstatic s.cfg n, fun hspeed hdiv => ?_,
    fun j q q' hq hphase hspeed hq' => ?_⟩
  · rw [tick_led run, hp, Option.map_some]
  · exact tickPixel_phase_of_advances ((advances_iff p.speed n).mpr ⟨hspeed, hdiv⟩) s.cfg
  · rw [tick_led run, hq, Option.map_some, Option.some.injEq] at hq'
    rw [← hq', tickPixel_phase_congr hphase hspeed]

end Sys2Proof.Machine.TickEffects
end

section
/-! LAW. COMPOSE and the frame (spec/42_compose_frame.md R170 to R172): its run as one equation (`exec_compose`), everything
a completed COMPOSE leaves (`compose_spec`), what the frame holds for one LED, and the fields the frame is a function of. -/

namespace Sys2Proof.Machine.ComposeFrame

open Sys2Proof.Machine.ColourArithmetic

/-- COMPOSE answers in every state (R170, R176). -/
theorem exec_compose (s : State) : exec .compose s = .next (s.withPort (.frame (s.pix.map project))) := rfl

/-- Everything a completed COMPOSE leaves: the frame on the port, and the rest as it was (R170, R172). -/
theorem compose_spec {s t : State} (h : exec .compose s = .next t) :
    t.port = .frame (s.pix.map project) ∧ t.pix = s.pix ∧ t.buf = s.buf ∧ SameSurroundings s t := by
  rw [exec_compose, Host.Outcome.next.injEq] at h
  subst h
  exact ⟨s.withPort_port _, s.withPort_pix _, s.withPort_buf _, s.withPort_cfg _, s.withPort_queue _,
    s.withPort_inBootloader _, s.withPort_foreignSeen _⟩

/-- R171 on one pixel: each channel is the exact quotient. -/
theorem project_toNat (p : Pixel) :
    (project p).r.toNat = p.out.r.toNat * p.brightness.toNat / 255 ∧
      (project p).g.toNat = p.out.g.toNat * p.brightness.toNat / 255 ∧
      (project p).b.toNat = p.out.b.toNat * p.brightness.toNat / 255 :=
  ⟨scale255_toNat p.out.r p.brightness, scale255_toNat p.out.g p.brightness, scale255_toNat p.out.b p.brightness⟩

/-- The frame's entry for LED `i` is that LED's projection (R170, R173). -/
theorem frame_getElem? (s : State) (i : Nat) : (s.pix.map project)[i]? = (s.led i).map project := by
  rw [List.getElem?_map, State.led_eq]

/-- The frame factors through the two fields R172 lets COMPOSE read. -/
theorem frame_eq_map_out_brightness (ps : List Pixel) :
    ps.map project = (ps.map fun p => (p.out, p.brightness)).map fun q => scaleColour q.1 q.2 := by
  rw [List.map_map]
  exact List.map_congr_left fun _ _ => rfl

theorem frame_congr {ps qs : List Pixel}
    (h : qs.map (fun p => (p.out, p.brightness)) = ps.map fun p => (p.out, p.brightness)) :
    qs.map project = ps.map project := by
  rw [frame_eq_map_out_brightness, h, frame_eq_map_out_brightness]

/-- Settles O48: LED `i` of the frame is the projection of its record, whose channels are exact quotients
(`project_toNat`). -/
theorem frameIsOutputScaledByBrightness : Obligations.FrameIsOutputScaledByBrightness := by
  intro s
  obtain ⟨hport, -⟩ := compose_spec (exec_compose s)
  refine ⟨_, _, exec_compose s, hport, List.length_map project, fun i p hp => ⟨project p, ?_, project_toNat p⟩⟩
  rw [frame_getElem?, hp, Option.map_some]

/-- Settles O49: the second frame is projected from the records the first COMPOSE left alone, and a frame depends on the
records through `out` and `brightness` (`frame_congr`). -/
theorem composeIsAReadOnlyProjection : Obligations.ComposeIsAReadOnlyProjection := by
  intro s t ht
  obtain ⟨hport, hpix, hbuf, hrest⟩ := compose_spec ht
  refine ⟨hpix, hbuf, hrest, ⟨_, exec_compose t, ?_⟩, fun s' t' ht' hfields => ?_⟩
  · rw [State.withPort_port, hpix, hport]
  · obtain ⟨hport', -⟩ := compose_spec ht'
    rw [hport', hport, frame_congr hfields]

end Sys2Proof.Machine.ComposeFrame
end

section
/-! LAW. A message the decoder rejects (R79, R192): the step that takes it, as one equation (`step_of_decode_fail`), and the
opcodes for which the decoder has no row (R71, R186). -/

namespace Sys2Proof.Machine.RejectedMessages

/-- R186's set: the opcodes that no row of R71 names. -/
abbrev UnknownOpcode (b : Byte) : Prop := b.toNat = 0 ∨ (7 ≤ b.toNat ∧ b.toNat ≤ 0xFD) ∨ b.toNat = 0xFF

/-- An unknown opcode is none of the seven bytes R71 names. -/
theorem UnknownOpcode.not_named {b : Byte} (h : UnknownOpcode b) :
    b ≠ opLedset ∧ b ≠ opLedmeta ∧ b ≠ opLedget ∧ b ≠ opProtocolVersion ∧ b ≠ opTeamNumber ∧
      b ≠ opControllerState ∧ b ≠ opEnterBootloader := by
  have differs {op : Byte} (named : ¬ UnknownOpcode op) : b ≠ op := fun e => named (e ▸ h)
  exact ⟨differs (by decide), differs (by decide), differs (by decide), differs (by decide), differs (by decide),
    differs (by decide), differs (by decide)⟩

/-- Eight bytes with an unknown opcode in front fall through every row of the decoder. -/
theorem decode_of_unknownOpcode {b : Byte} (h : UnknownOpcode b) :
    ∀ {payload : List Byte}, 8 ≤ (b :: payload).length → decode (b :: payload) = .fail .opcode
  | _ :: _ :: _ :: _ :: _ :: _ :: _ :: _, _ => by
    obtain ⟨hset, hmeta, hget, hversion, hteam, hstate, hboot⟩ := h.not_named
    rw [decode, if_neg hset, if_neg hmeta, if_neg hget, if_neg hversion, if_neg hteam, if_neg hstate, if_neg hboot]

/-- A command the port accepts and the decoder rejects raises the decoder's cause. -/
theorem runCommand_of_decode_fail {req : List Byte} {s : State} {c : FailCause} (hlen : req.length = s.cfg.msgLen)
    (hdec : decode req = .fail c) : runCommand req s = .next ((s.withBuf req).raise c) := by
  simp only [runCommand, State.acceptsMessage, beq_iff_eq, if_pos hlen, hdec]

/-- Outside the bootloader a step hands the command message at the head of the queue to the `cmd` port (R10). -/
theorem step_of_command {s : State} {req : List Byte} {q : List Event} (hq : s.queue = .op (.command req) :: q)
    (hboot : s.inBootloader = false) : step s = runCommand req (s.withQueue q) := by
  simp only [step, hq, runEvent, runOp, State.withQueue_inBootloader, hboot, Bool.false_eq_true, if_false]

/-- The step that takes a rejected message raises the cause on that message, and does nothing else. -/
theorem step_of_decode_fail {s : State} {req : List Byte} {q : List Event} {c : FailCause}
    (hq : s.queue = .op (.command req) :: q) (hboot : s.inBootloader = false) (hlen : req.length = s.cfg.msgLen)
    (hdec : decode req = .fail c) : step s = .next (((s.withQueue q).withBuf req).raise c) :=
  (step_of_command hq hboot).trans (runCommand_of_decode_fail (s := s.withQueue q) hlen hdec)

/-- Settles O9: the decoder rejects the opcode (`decode_of_unknownOpcode`), so the step is the shared failure of R192
(`State.raise_spec`) on the message. -/
theorem unknownOpcodeAnswersSentinel : Obligations.UnknownOpcodeAnswersSentinel := by
  intro s b payload q hq hboot h8 hlen hb
  have hdec : decode (b :: payload) = .fail .opcode := decode_of_unknownOpcode hb (hlen ▸ h8)
  obtain ⟨hpix, hbuf, hport, hrest⟩ := ((s.withQueue q).withBuf (b :: payload)).raise_spec .opcode
  refine ⟨_, step_of_decode_fail hq hboot hlen hdec, hpix, hbuf, hport, hrest, fun hff => ?_⟩
  have hsentinel : b = 0xFF := BitVec.eq_of_toNat_eq hff
  rw [hbuf, hsentinel, State.withBuf_buf, List.set_cons_zero]

end Sys2Proof.Machine.RejectedMessages
end

section
/-! LAW. Failures (spec/60_exceptions.md R190, R192): a command that answers has raised the block's one exception or has
completed (`CommandEnds`), so a failing step is `State.raise` on the request it took (`step_failure`); and an operation
the ports accept always answers (`runOp_answers`), for the decoder never finds a whole message short (`decode_sound`). -/

namespace Sys2Proof.Machine.Failures

open Sys2Proof.Machine.TickEffects Sys2Proof.Machine.ComposeFrame

/-! ### What the decoder yields -/

/-- What the decoder may yield for a message of `len` bytes: a command that has an encoding (R84), a cause, a foreign
message, or, for fewer than 8 bytes only (R6), no message at all. -/
def SoundFor (len : Nat) : Decoded → Prop
  | .command i => i.wellFormed = true
  | .fail _ => True
  | .foreign _ => True
  | .short => len < 8

section Tables

variable (len : Nat) (idx first last sec kind v0 v1 v2 : Byte)

theorem decodeSingle_sound : SoundFor len (decodeSingle idx kind v0 v1 v2) := by
  unfold decodeSingle
  split_ifs <;> trivial

theorem decodeMultiple_sound : SoundFor len (decodeMultiple first last kind v0 v1 v2) := by
  unfold decodeMultiple
  split_ifs <;> trivial

theorem decodeSection_sound : SoundFor len (decodeSection sec kind v0 v1 v2) := by
  unfold decodeSection
  split_ifs <;> trivial

theorem decodeAll_sound : SoundFor len (decodeAll kind v0 v1 v2) := by
  unfold decodeAll
  split_ifs <;> trivial

end Tables

/-- The decoder keeps to `SoundFor` on any bytes (R79). -/
theorem decode_sound (m : List Byte) : SoundFor m.length (decode m) := by
  unfold decode
  split
  next =>
    split_ifs
    · exact decodeSingle_sound ..
    · exact decodeMultiple_sound ..
    · exact decodeSection_sound ..
    · exact decodeAll_sound ..
    all_goals trivial
  next hshort =>
    match m, hshort with
    | [], _ | [_], _ | [_, _], _ | [_, _, _], _ | [_, _, _, _], _ | [_, _, _, _, _], _ | [_, _, _, _, _, _], _
    | [_, _, _, _, _, _, _], _ => simp [SoundFor]
    | _ :: _ :: _ :: _ :: _ :: _ :: _ :: _ :: _, hshort => exact (hshort _ _ _ _ _ _ _ _ _ rfl).elim

/-- TICK and COMPOSE have no encoding, so no message decodes to them (R84). -/
theorem wellFormed_of_decode {m : List Byte} {i : Instr} (h : decode m = .command i) : i.wellFormed = true := by
  have sound := decode_sound m
  rwa [h] at sound

theorem decode_ne_short {m : List Byte} (hlen : 8 ≤ m.length) : decode m ≠ .short := by
  intro h
  have sound := decode_sound m
  rw [h] at sound
  exact absurd hlen (Nat.not_le.mpr sound)

/-! ### How a command ends -/

/-- A command started in `s`, the request in its buffer, ends in `t` (R190): it raised its cause there, or it completed. -/
def CommandEnds (s t : State) : Prop := (∃ c, t = s.raise c) ∨ t.port = .response none

theorem CommandEnds.responds {s t : State} (h : CommandEnds s t) : ∃ r, t.port = .response r := by
  obtain ⟨c, rfl⟩ | hport := h
  · obtain ⟨-, -, hport, -⟩ := s.raise_spec c
    exact ⟨some c, hport⟩
  · exact ⟨none, hport⟩

/-- The port's label determines the failure: a delivery labelled `c` is `raise c` and nothing besides. -/
theorem CommandEnds.eq_raise {s t : State} {c : FailCause} (h : CommandEnds s t) (hport : t.port = .response (some c)) :
    t = s.raise c := by
  obtain ⟨c', rfl⟩ | hnone := h
  · obtain ⟨-, -, hport', -⟩ := s.raise_spec c'
    rw [hport', PortOut.response.injEq, Option.some.injEq] at hport
    rw [hport]
  · simp [hnone] at hport

theorem ledSet_ends (s : State) (sel : Selector) (val : Value) : CommandEnds s (s.ledSet sel val) := by
  obtain ⟨c, -, h⟩ | ⟨-, -, c, -, -, h⟩ | ⟨a, b, x, -, -, h⟩ := s.ledSet_cases sel val
  · exact .inl ⟨c, h⟩
  · exact .inl ⟨c, h⟩
  · obtain ⟨-, -, hport, -⟩ := (s.fillRange a b x).complete_spec
    exact .inr (h ▸ hport)

/-- Every meaning answers, takes nothing from the queue, and, a command's, fails or completes. -/
theorem exec_answers (i : Instr) (s : State) :
    ∃ t, exec i s = .next t ∧ t.queue = s.queue ∧ (i.wellFormed = true → CommandEnds s t) := by
  obtain ⟨sel, val, -, run⟩ | ⟨-, run⟩ | ⟨-, run⟩ | ⟨-, run⟩ | ⟨n, rfl, run⟩ | ⟨rfl, run⟩ := exec_cases i s
  · obtain ⟨-, -, -, hqueue, -⟩ := s.ledSet_frame sel val
    exact ⟨_, run, hqueue, fun _ => ledSet_ends s sel val⟩
  · obtain ⟨-, -, hport, -, hqueue, -⟩ := s.replyByte_spec (BitVec.ofNat 8 s.cfg.ledCount)
    exact ⟨_, run, hqueue, fun _ => .inr hport⟩
  · obtain ⟨-, -, hport, -, hqueue, -⟩ := s.replyByte_spec (BitVec.ofNat 8 s.cfg.sectionCount)
    exact ⟨_, run, hqueue, fun _ => .inr hport⟩
  · obtain ⟨-, -, hport, -, hqueue, -⟩ := s.complete_spec
    exact ⟨_, run, hqueue, fun _ => .inr hport⟩
  · exact ⟨_, run, rfl, nofun⟩
  · exact ⟨_, run, rfl, nofun⟩

theorem exec_command_ends {i : Instr} (hi : i.wellFormed = true) {s t : State} (h : exec i s = .next t) :
    CommandEnds s t := by
  obtain ⟨t', run, -, ends⟩ := exec_answers i s
  rw [run, Host.Outcome.next.injEq] at h
  exact h ▸ ends hi

/-! ### Failing operations and steps -/

/-- How an answered operation ends, by its port: only a command delivers a response (R190). -/
theorem runOp_ends {o : Op} {s t : State} (h : runOp o s = .next t) :
    (∃ req, o = .command req ∧ CommandEnds (s.withBuf req) t) ∨ ((∃ n, o = .tick n) ∧ t.port = .nothing) ∨
      (o = .compose ∧ t.port = .frame (s.pix.map project)) := by
  obtain ⟨req, i, ho, -, hdec, run⟩ | ⟨req, c, ho, -, -, ht⟩ | ⟨req, f, ho, -, -, rfl⟩ | ⟨n, ho, run⟩ | ⟨ho, run⟩ :=
    runOp_cases h
  · exact .inl ⟨req, ho, exec_command_ends (wellFormed_of_decode hdec) run⟩
  · exact .inl ⟨req, ho, .inl ⟨c, ht⟩⟩
  · obtain ⟨-, -, -, -, hport, -⟩ := (s.withBuf req).answerForeign_spec f
    exact .inl ⟨req, ho, .inr hport⟩
  · rw [exec_tick, Host.Outcome.next.injEq] at run
    exact .inr (.inl ⟨⟨n, ho⟩, run ▸ State.withPort_port _ _⟩)
  · obtain ⟨hport, -⟩ := compose_spec run
    exact .inr (.inr ⟨ho, hport⟩)

theorem runOp_command_responds {req : List Byte} {s t : State} (h : runOp (.command req) s = .next t) :
    ∃ r, t.port = .response r := by
  obtain ⟨_, -, ends⟩ | ⟨⟨_, ho⟩, -⟩ | ⟨ho, -⟩ := runOp_ends h
  · exact ends.responds
  · cases ho
  · cases ho

/-- Only a command fails (R190), and its failure is the exception, raised on its request (R192). -/
theorem runOp_failure {o : Op} {s t : State} {c : FailCause} (h : runOp o s = .next t)
    (hport : t.port = .response (some c)) : ∃ req, o = .command req ∧ t = (s.withBuf req).raise c := by
  obtain ⟨req, ho, ends⟩ | ⟨-, htick⟩ | ⟨-, hcompose⟩ := runOp_ends h
  · exact ⟨req, ho, ends.eq_raise hport⟩
  · simp [htick] at hport
  · simp [hcompose] at hport

/-- A step that ends in a failure took a command and raised its cause, and that is all it did. -/
theorem step_failure {s t : State} {c : FailCause} {e : Event} {q : List Event} (hq : s.queue = e :: q)
    (h : step s = .next t) (hport : t.port = .response (some c)) :
    ∃ req, e = .op (.command req) ∧ t = ((s.withQueue q).withBuf req).raise c := by
  obtain ⟨hnil, -⟩ | ⟨ab, q', -, rfl⟩ | ⟨o, q', hop, -, run⟩ := step_cases h
  · simp [hnil] at hq
  · obtain ⟨-, -, -, hreset, -⟩ := (s.withQueue q').resetEvent_spec
    simp [hreset] at hport
  · obtain ⟨rfl, rfl⟩ := List.cons.inj (hop.symm.trans hq)
    obtain ⟨req, rfl, ht⟩ := runOp_failure run hport
    exact ⟨req, rfl, ht⟩

/-- The exception in the statements' terms (R192). -/
theorem raise_failedWith (s : State) (c : FailCause) : FailedWith s (s.raise c) c := by
  obtain ⟨hpix, hbuf, hport, hrest⟩ := s.raise_spec c
  refine ⟨hpix, fun k => ?_, hport, hrest⟩
  rw [hbuf]
  cases k with
  | zero => cases s.buf <;> simp
  | succ k => simp

/-- Settles O10: a failing step is the exception raised on the request it took (`step_failure`). -/
theorem everyFailureChangesNothingButByteZero : Obligations.EveryFailureChangesNothingButByteZero := by
  intro s t c e q hq h hport
  obtain ⟨req, he, rfl⟩ := step_failure hq h hport
  exact ⟨req, he, raise_failedWith _ c⟩

/-! ### Accepted operations answer -/

theorem runCommand_answers {req : List Byte} {s : State} (hlen : req.length = s.cfg.msgLen) (h8 : 8 ≤ s.cfg.msgLen) :
    ∃ t, runCommand req s = .next t ∧ t.queue = s.queue := by
  simp only [runCommand, State.acceptsMessage, beq_iff_eq, if_pos hlen]
  cases hdec : decode req with
  | command i =>
    obtain ⟨t, run, hqueue, -⟩ := exec_answers i (s.withBuf req)
    exact ⟨t, run, hqueue⟩
  | fail c =>
    obtain ⟨-, -, -, -, hqueue, -⟩ := (s.withBuf req).raise_spec c
    exact ⟨_, rfl, hqueue⟩
  | foreign f =>
    obtain ⟨-, -, hqueue, -⟩ := (s.withBuf req).answerForeign_spec f
    exact ⟨_, rfl, hqueue⟩
  | short => exact absurd hdec (decode_ne_short (hlen ▸ h8))

/-- An operation the ports accept is answered, and takes nothing from the queue. -/
theorem runOp_answers {o : Op} {s : State} (hboot : s.inBootloader = false) (h8 : 8 ≤ s.cfg.msgLen)
    (hlen : ∀ req, o = .command req → req.length = s.cfg.msgLen) : ∃ t, runOp o s = .next t ∧ t.queue = s.queue := by
  simp only [runOp, hboot, Bool.false_eq_true, if_false]
  cases o with
  | command req => exact runCommand_answers (hlen req rfl) h8
  | tick n => exact ⟨_, exec_tick n s, rfl⟩
  | compose => exact ⟨_, exec_compose s, rfl⟩

theorem step_of_op {s : State} {o : Op} {q : List Event} (hq : s.queue = .op o :: q) :
    step s = runOp o (s.withQueue q) := by
  simp only [step, hq, runEvent]

/-- Settles O18: the answer is `runOp_answers`; a failure among the answers is the exception of R192 on a command
(`runOp_failure`), and a command always responds (`CommandEnds.responds`). -/
theorem everyAcceptedOperationCompletes : Obligations.EveryAcceptedOperationCompletes := by
  intro s o q hq hboot h8 hlen
  obtain ⟨t, run, hqueue⟩ := runOp_answers (s := s.withQueue q) hboot h8 hlen
  refine ⟨t, (step_of_op hq).trans run, hqueue, fun c hport => ?_, fun req ho => ?_⟩
  · obtain ⟨req, ho, rfl⟩ := runOp_failure run hport
    obtain ⟨hpix, -⟩ := ((s.withQueue q).withBuf req).raise_spec c
    exact ⟨⟨req, ho⟩, hpix⟩
  · exact runOp_command_responds (ho ▸ run)

end Sys2Proof.Machine.Failures
end

section
/-! LAW. When a fill shows in the frame (spec/70_reset_and_hazards.md R213): of all operations only a TICK and a brightness
fill move the frame a COMPOSE delivers (`exec_keeps_frame`), and a brightness fill moves it at once
(`brightnessFill_frame`). -/

namespace Sys2Proof.Machine.FillVisibility

open Sys2Proof.Machine.LedsetWrites Sys2Proof.Machine.ComposeFrame

/-! ### Sequences -/

theorem execAll_cons_of_next {i : Instr} {s t : State} (run : exec i s = .next t) (is : List Instr) :
    execAll (i :: is) s = execAll is t := by
  simp only [execAll, run]

/-- A sequence that completes hands its last state to what follows it (R59). -/
theorem execAll_append_of_next (js : List Instr) {t : State} :
    ∀ {is : List Instr} {s : State}, execAll is s = .next t → execAll (is ++ js) s = execAll js t
  | [], s, h => by
    rw [execAll, Host.Outcome.next.injEq] at h
    rw [List.nil_append, h]
  | i :: is, s, h => by
    cases run : exec i s with
    | next u =>
      rw [execAll_cons_of_next run] at h
      rw [List.cons_append, execAll_cons_of_next run, execAll_append_of_next js h]
    | fault r => simp [execAll, run] at h
    | refused r => simp [execAll, run] at h

theorem execAll_singleton (i : Instr) (s : State) : execAll [i] s = exec i s := by
  rw [execAll]
  cases exec i s <;> rfl

/-! ### Attributes and the projection -/

/-- Only the brightness attribute is among the two fields the projection reads (R171, R172). -/
theorem project_apply {x : Attr} (hx : ∀ v, x ≠ .brightness v) (k a b : Nat) (p : Pixel) :
    project (x.apply k a b p) = project p := by
  cases x with
  | brightness v => exact absurd rfl (hx v)
  | color | effect | effectSpaced | phase | speed => rfl

/-- A brightness takes the old one's place beside the output colour, which stays (R111). -/
theorem project_apply_brightness (v : Byte) (k a b : Nat) (p : Pixel) :
    project (Attr.apply k a b p (.brightness v)) = project { p with brightness := v } := rfl

/-- A value is read as a brightness only if it came as one (R105). -/
theorem eq_brightness_of_validate {val : Value} {v : Byte} (h : validate val = .ok (.brightness v)) :
    val = .brightness v := by
  cases val with
  | color | phase | speed => simp [validate] at h
  | effect | effectSpaced =>
    simp only [validate] at h
    split at h <;> simp at h
  | brightness w => simpa [validate] using h

/-- The brightness forms are the ones whose value is a brightness. -/
theorem isBrightness_of_parts {i : Instr} {sel : Selector} {v : Byte}
    (parts : ledsetParts i = some (sel, .brightness v)) : isBrightness i = true := by
  cases i
  case ledsetSingleBrightness | ledsetMultipleBrightness | ledsetSectionBrightness | ledsetAllBrightness => rfl
  all_goals simp [ledsetParts] at parts

/-! ### What keeps the frame -/

theorem fillRange_keeps_frame {x : Attr} (hx : ∀ v, x ≠ .brightness v) (s : State) (a b : Nat) :
    (s.fillRange a b x).pix.map project = s.pix.map project := by
  refine List.ext_getElem? fun k => ?_
  rw [frame_getElem?, frame_getElem?, State.fillRange_led]
  split
  · simp only [Option.map_map, Function.comp_def, project_apply hx]
  · rfl

/-- An LEDSET of any other value keeps the frame, whether it fills or fails. -/
theorem ledSet_keeps_frame {val : Value} (hval : ∀ v, val ≠ .brightness v) (s : State) (sel : Selector) :
    (s.ledSet sel val).pix.map project = s.pix.map project := by
  obtain ⟨c, -, h⟩ | ⟨-, -, c, -, -, h⟩ | ⟨a, b, x, -, hv, h⟩ := s.ledSet_cases sel val <;> rw [h]
  · obtain ⟨hpix, -⟩ := s.raise_spec c
    rw [hpix]
  · obtain ⟨hpix, -⟩ := s.raise_spec c
    rw [hpix]
  · obtain ⟨hpix, -⟩ := (s.fillRange a b x).complete_spec
    have hx : ∀ v, x ≠ .brightness v := fun v e => hval v (eq_brightness_of_validate (e ▸ hv))
    rw [hpix, fillRange_keeps_frame hx]

/-- An operation that is neither a TICK nor a brightness fill keeps the frame. -/
theorem exec_keeps_frame {i : Instr} (htick : isTick i = false) (hbright : isBrightness i = false) (s : State) :
    ∃ t, exec i s = .next t ∧ t.pix.map project = s.pix.map project := by
  obtain ⟨sel, val, parts, run⟩ | ⟨-, run⟩ | ⟨-, run⟩ | ⟨-, run⟩ | ⟨n, rfl, -⟩ | ⟨rfl, run⟩ := exec_cases i s
  · have hval : ∀ v, val ≠ .brightness v := by
      rintro v rfl
      exact absurd (isBrightness_of_parts parts) (by simp [hbright])
    exact ⟨_, run, ledSet_keeps_frame hval s sel⟩
  · obtain ⟨hpix, -⟩ := s.replyByte_spec (BitVec.ofNat 8 s.cfg.ledCount)
    exact ⟨_, run, by rw [hpix]⟩
  · obtain ⟨hpix, -⟩ := s.replyByte_spec (BitVec.ofNat 8 s.cfg.sectionCount)
    exact ⟨_, run, by rw [hpix]⟩
  · obtain ⟨hpix, -⟩ := s.complete_spec
    exact ⟨_, run, by rw [hpix]⟩
  · simp [isTick] at htick
  · exact ⟨_, run, by rw [State.withPort_pix]⟩

theorem execAll_keeps_frame : ∀ {is : List Instr}, (∀ i ∈ is, isTick i = false ∧ isBrightness i = false) →
    ∀ s : State, ∃ t, execAll is s = .next t ∧ t.pix.map project = s.pix.map project
  | [], _, s => ⟨s, rfl, rfl⟩
  | i :: is, h, s => by
    obtain ⟨⟨htick, hbright⟩, his⟩ := List.forall_mem_cons.mp h
    obtain ⟨u, run, hu⟩ := exec_keeps_frame htick hbright s
    obtain ⟨t, hrest, ht⟩ := execAll_keeps_frame his u
    exact ⟨t, (execAll_cons_of_next run is).trans hrest, ht.trans hu⟩

/-! ### What a brightness fill shows -/

/-- A COMPOSE right after a brightness fill of `a..b` finds each addressed LED's output colour at the new brightness. -/
theorem brightnessFill_frame {i : Instr} {sel : Selector} {v : Byte}
    (parts : ledsetParts i = some (sel, .brightness v)) {s : State} {a b : Nat}
    (hrange : targetRange s.cfg i = some (a, b)) :
    ∃ t frame, execAll [i, .compose] s = .next t ∧ t.port = .frame frame ∧
      ∀ k p, a ≤ k → k ≤ b → s.led k = some p → frame[k]? = some (project { p with brightness := v }) := by
  have hfill : s.ledSet sel (.brightness v) = (s.fillRange a b (.brightness v)).complete :=
    State.ledSet_ok (resolve_of_targetRange parts hrange) rfl
  obtain ⟨hpix, -⟩ := (s.fillRange a b (.brightness v)).complete_spec
  have run := exec_of_ledsetParts parts s
  obtain ⟨hport, -⟩ := compose_spec (exec_compose (s.ledSet sel (.brightness v)))
  refine ⟨_, _, (execAll_cons_of_next run [.compose]).trans rfl, hport, fun k p hak hkb hp => ?_⟩
  rw [frame_getElem?, hfill, State.led_congr hpix, State.fillRange_led, if_pos ⟨hak, hkb⟩, hp, Option.map_some,
    Option.map_some, project_apply_brightness]

theorem brightnessForm_parts {idx first last sec v : Byte} {i : Instr}
    (hi : i ∈ ([.ledsetSingleBrightness idx v, .ledsetMultipleBrightness first last v, .ledsetSectionBrightness sec v,
      .ledsetAllBrightness v] : List Instr)) : ∃ sel, ledsetParts i = some (sel, .brightness v) := by
  simp only [List.mem_cons, List.not_mem_nil, or_false] at hi
  obtain rfl | rfl | rfl | rfl := hi <;> exact ⟨_, rfl⟩

/-- Settles O50: the operations before the COMPOSE keep the frame one by one (`execAll_keeps_frame`), and a brightness
fill puts its value into the projection of each LED it addresses (`brightnessFill_frame`). -/
theorem fillsShowAfterATickBrightnessAtOnce : Obligations.FillsShowAfterATickBrightnessAtOnce := by
  refine ⟨fun is s t u his ht hu => ?_, fun s idx first last sec v i hi a b hrange => ?_⟩
  · obtain ⟨s', run, hframe⟩ := execAll_keeps_frame his s
    rw [execAll_append_of_next [.compose] run, execAll_singleton] at ht
    obtain ⟨hport, -⟩ := compose_spec ht
    obtain ⟨hport', -⟩ := compose_spec hu
    rw [hport, hport', hframe]
  · obtain ⟨sel, parts⟩ := brightnessForm_parts hi
    obtain ⟨t, frame, run, hport, hshown⟩ := brightnessFill_frame parts hrange
    exact ⟨t, frame, run, hport, fun k p hak hkb hp => ⟨_, hshown k p hak hkb hp, project_toNat _⟩⟩

end Sys2Proof.Machine.FillVisibility
end

section
/-! LAW. The encoder and the decoder agree (spec/30_encoding.md R70 to R79): a command decodes from its encoding
(`decode_encode_append`) and from nothing else (`decode_reads`), and every other message has the cause of the first row that
has no entry for it (`KindRow`, `decode_of_badMode`, `decode_of_badSubId`, `decode_of_unknownOpcode`). -/

namespace Sys2Proof.Machine.Codec

open Sys2Proof.Machine.Failures Sys2Proof.Machine.RejectedMessages

/-! ### Decoding an encoding -/

/-- The decoder reads 8 bytes, so of the tail it reads what the encoding leaves open, and no operand is among that
(R74, D32). -/
theorem decode_encode_append {i : Instr} (hi : i.wellFormed = true) (tail : List Byte)
    (hlen : 8 ≤ (encode i ++ tail).length) : decode (encode i ++ tail) = .command i := by
  cases i
  case tick | compose => simp [Instr.wellFormed] at hi
  case ledsetMultipleColor => rfl
  case ledsetSingleColor | ledsetSectionColor =>
    match tail, (by simpa [encode] using hlen : 1 ≤ tail.length) with
    | _ :: _, _ => rfl
  case ledsetAllColor | ledsetMultipleEffect | ledsetMultipleEffectSpaced | ledsetMultiplePhase | ledsetMultipleSpeed
    | ledsetMultipleBrightness =>
    match tail, (by simpa [encode] using hlen : 2 ≤ tail.length) with
    | _ :: _ :: _, _ => rfl
  case ledsetAllEffect | ledsetAllEffectSpaced | ledsetAllPhase | ledsetAllSpeed | ledsetAllBrightness =>
    match tail, (by simpa [encode] using hlen : 4 ≤ tail.length) with
    | _ :: _ :: _ :: _ :: _, _ => rfl
  case ledmetaLedcount | ledmetaSectioncount =>
    match tail, (by simpa [encode] using hlen : 6 ≤ tail.length) with
    | _ :: _ :: _ :: _ :: _ :: _ :: _, _ => rfl
  case ledget =>
    match tail, (by simpa [encode] using hlen : 7 ≤ tail.length) with
    | _ :: _ :: _ :: _ :: _ :: _ :: _ :: _, _ => rfl
  all_goals
    match tail, (by simpa [encode] using hlen : 3 ≤ tail.length) with
    | _ :: _ :: _ :: _, _ => rfl

/-- Settles O2, by the number of bytes each encoding leaves to its tail (`decode_encode_append`). -/
theorem decodeEncodeRoundTrip : Obligations.DecodeEncodeRoundTrip :=
  fun _ tail hi hlen => decode_encode_append hi tail hlen

/-! ### What a decoded message begins with -/

/-- What was decoded from `m` reads nothing into it: a command is spelled out at its front. -/
def Reads (m : List Byte) : Decoded → Prop
  | .command i => encode i <+: m
  | .fail _ => True
  | .foreign _ => True
  | .short => True

section Tables

variable (idx first last sec kind v0 v1 v2 : Byte) (rest : List Byte)

theorem decodeSingle_reads : Reads (opLedset :: modeSingle :: idx :: kind :: v0 :: v1 :: v2 :: rest)
    (decodeSingle idx kind v0 v1 v2) := by
  unfold decodeSingle
  split_ifs <;> simp [Reads, encode, *]

theorem decodeMultiple_reads : Reads (opLedset :: modeMultiple :: first :: last :: kind :: v0 :: v1 :: v2 :: rest)
    (decodeMultiple first last kind v0 v1 v2) := by
  unfold decodeMultiple
  split_ifs <;> simp [Reads, encode, *]

theorem decodeSection_reads : Reads (opLedset :: modeSection :: sec :: kind :: v0 :: v1 :: v2 :: rest)
    (decodeSection sec kind v0 v1 v2) := by
  unfold decodeSection
  split_ifs <;> simp [Reads, encode, *]

theorem decodeAll_reads : Reads (opLedset :: modeAll :: kind :: v0 :: v1 :: v2 :: rest) (decodeAll kind v0 v1 v2) := by
  unfold decodeAll
  split_ifs <;> simp [Reads, encode, *]

end Tables

theorem decode_reads (m : List Byte) : Reads m (decode m) := by
  unfold decode
  split
  next =>
    split_ifs <;> subst_vars
    · exact decodeSingle_reads ..
    · exact decodeMultiple_reads ..
    · exact decodeSection_reads ..
    · exact decodeAll_reads ..
    all_goals simp [Reads, encode]
  next => trivial

/-- Settles O3: what the decoder yields it has read at the message's front (`decode_reads`). -/
theorem decodedMessageBeginsWithItsEncoding : Obligations.DecodedMessageBeginsWithItsEncoding := by
  intro m i hdec
  have reads := decode_reads m
  rw [hdec] at reads
  exact ⟨wellFormed_of_decode hdec, reads⟩

/-- Settles O4: nine closed words, each evaluated. -/
theorem specWordsDecode : Obligations.SpecWordsDecode :=
  ⟨by decide, by decide, by decide, by decide, by decide, by decide, by decide, by decide, by decide⟩

/-! ### The classification of the messages that are no defined form -/

/-- R73's complement: the bytes that are no value kind. -/
abbrev BadKind (k : Byte) : Prop := k.toNat = 0 ∨ 7 ≤ k.toNat

theorem badKind_iff (k : Byte) : BadKind k ↔ k ≠ kindColor ∧ k ≠ kindEffect ∧ k ≠ kindEffectSpaced ∧ k ≠ kindPhase ∧
    k ≠ kindSpeed ∧ k ≠ kindBrightness := by
  bv_omega

/-- A sub-mode's answer to a value kind: F_KIND on the bytes that are none (R73, R78), a command on the others. -/
def KindRow (kind : Byte) (d : Decoded) : Prop := if BadKind kind then d = .fail .kind else ∃ i, d = .command i

theorem KindRow.fail_iff {kind : Byte} {d : Decoded} (h : KindRow kind d) (c : FailCause) :
    d = .fail c ↔ c = .kind ∧ BadKind kind := by
  unfold KindRow at h
  split at h
  next hbad => simp [h, hbad, eq_comm]
  next hgood =>
    obtain ⟨i, rfl⟩ := h
    simp [hgood]

theorem KindRow.ne_foreign {kind : Byte} {d : Decoded} (h : KindRow kind d) (f : Foreign) : d ≠ .foreign f := by
  unfold KindRow at h
  split at h
  next => simp [h]
  next =>
    obtain ⟨i, rfl⟩ := h
    simp

section Tables

variable (idx first last sec kind v0 v1 v2 : Byte)

theorem decodeSingle_row : KindRow kind (decodeSingle idx kind v0 v1 v2) := by
  simp only [KindRow, badKind_iff]
  unfold decodeSingle
  split_ifs <;> simp_all

theorem decodeMultiple_row : KindRow kind (decodeMultiple first last kind v0 v1 v2) := by
  simp only [KindRow, badKind_iff]
  unfold decodeMultiple
  split_ifs <;> simp_all

theorem decodeSection_row : KindRow kind (decodeSection sec kind v0 v1 v2) := by
  simp only [KindRow, badKind_iff]
  unfold decodeSection
  split_ifs <;> simp_all

theorem decodeAll_row : KindRow kind (decodeAll kind v0 v1 v2) := by
  simp only [KindRow, badKind_iff]
  unfold decodeAll
  split_ifs <;> simp_all

end Tables

section Rows

variable {b1 b2 b3 b4 b5 b6 b7 : Byte} {rest : List Byte}

theorem decode_of_badMode (h : b1.toNat = 0 ∨ 5 ≤ b1.toNat) :
    decode (opLedset :: b1 :: b2 :: b3 :: b4 :: b5 :: b6 :: b7 :: rest) = .fail .mode := by
  have differs {mode : Byte} (known : ¬ (mode.toNat = 0 ∨ 5 ≤ mode.toNat)) : b1 ≠ mode := fun e => known (e ▸ h)
  rw [decode, if_pos rfl, if_neg (differs (by decide)), if_neg (differs (by decide)), if_neg (differs (by decide)),
    if_neg (differs (by decide))]

theorem decode_of_badSubId (h : b1.toNat = 0 ∨ 3 ≤ b1.toNat) :
    decode (opLedmeta :: b1 :: b2 :: b3 :: b4 :: b5 :: b6 :: b7 :: rest) = .fail .subId := by
  have differs {sub : Byte} (known : ¬ (sub.toNat = 0 ∨ 3 ≤ sub.toNat)) : b1 ≠ sub := fun e => known (e ▸ h)
  rw [decode, if_neg (by decide), if_pos rfl, if_neg (differs (by decide)), if_neg (differs (by decide))]

end Rows

theorem opcode_cases (b : Byte) : b = opLedset ∨ b = opLedmeta ∨ b = opLedget ∨ b = opProtocolVersion ∨
    b = opTeamNumber ∨ b = opControllerState ∨ b = opEnterBootloader ∨ UnknownOpcode b := by
  bv_omega

theorem mode_cases (b : Byte) : b = modeSingle ∨ b = modeMultiple ∨ b = modeSection ∨ b = modeAll ∨
    (b.toNat = 0 ∨ 5 ≤ b.toNat) := by
  bv_omega

theorem subId_cases (b : Byte) : b = subLedCount ∨ b = subSectionCount ∨ (b.toNat = 0 ∨ 3 ≤ b.toNat) := by
  bv_omega

/-- Settles O5: by the opcode, and under LEDSET and LEDMETA by the byte after it, each message has one row's answer, and
that answer decides all eight classes. -/
theorem undefinedEncodingsFailByCause : Obligations.UndefinedEncodingsFailByCause := by
  intro b0 b1 b2 b3 b4 b5 b6 b7 tail m badKind
  obtain rfl | rfl | rfl | rfl | rfl | rfl | rfl | hb := opcode_cases b0
  · obtain rfl | rfl | rfl | rfl | hb := mode_cases b1
    · have row : KindRow b3 (decode m) := decodeSingle_row ..
      simp [badKind, row.fail_iff, row.ne_foreign]
    · have row : KindRow b4 (decode m) := decodeMultiple_row ..
      simp [badKind, row.fail_iff, row.ne_foreign]
    · have row : KindRow b3 (decode m) := decodeSection_row ..
      simp [badKind, row.fail_iff, row.ne_foreign]
    · have row : KindRow b2 (decode m) := decodeAll_row ..
      simp [badKind, row.fail_iff, row.ne_foreign]
    · have hdec : decode m = .fail .mode := decode_of_badMode hb
      have hknown : b1.toNat ≠ 1 ∧ b1.toNat ≠ 2 ∧ b1.toNat ≠ 3 ∧ b1.toNat ≠ 4 := by omega
      simp [hdec, hb, hknown]
  · obtain rfl | rfl | hb := subId_cases b1
    · have hdec : decode m = .command .ledmetaLedcount := rfl
      simp [hdec]
    · have hdec : decode m = .command .ledmetaSectioncount := rfl
      simp [hdec]
    · have hdec : decode m = .fail .subId := decode_of_badSubId hb
      simp [hdec, hb]
  · have hdec : decode m = .command .ledget := rfl
    simp [hdec]
  · have hdec : decode m = .foreign .protocolVersion := rfl
    simp [hdec]
  · have hdec : decode m = .foreign .teamNumber := rfl
    simp [hdec]
  · have hdec : decode m = .foreign .controllerState := rfl
    simp [hdec]
  · have hdec : decode m = .foreign .enterBootloader := rfl
    simp [hdec]
  · have hdec : decode m = .fail .opcode := decode_of_unknownOpcode hb (by simp)
    have hknown : b0.toNat ≠ 6 ∧ b0.toNat ≠ 4 ∧ b0.toNat ≠ 1 ∧ b0.toNat ≠ 2 ∧ b0.toNat ≠ 3 ∧ b0.toNat ≠ 0xFE := by
      omega
    simp [hdec, hb, hknown]

end Sys2Proof.Machine.Codec
end

section
/-! LAW. The invariant of legal states (spec/10_state.md R36): no operation writes the configuration, changes the number of
Pixel Records, or leaves a buffer of another length (`exec_frame`, `runOp_frame`), and a reset rebuilds both to the lengths
the configuration gives. -/

namespace Sys2Proof.Machine.LegalStates

/-- What every meaning keeps, whether it completes or fails. -/
theorem exec_frame {i : Instr} {s t : State} (h : exec i s = .next t) :
    t.cfg = s.cfg ∧ t.pix.length = s.pix.length ∧ t.buf.length = s.buf.length := by
  obtain ⟨sel, val, -, run⟩ | ⟨-, run⟩ | ⟨-, run⟩ | ⟨-, run⟩ | ⟨n, -, run⟩ | ⟨-, run⟩ := exec_cases i s <;>
    rw [run, Host.Outcome.next.injEq] at h <;> subst h
  · obtain ⟨hpix, hbuf, hcfg, -⟩ := s.ledSet_frame sel val
    exact ⟨hcfg, hpix, hbuf⟩
  · exact ⟨rfl, rfl, List.length_set⟩
  · exact ⟨rfl, rfl, List.length_set⟩
  · exact ⟨rfl, rfl, rfl⟩
  · exact ⟨rfl, List.length_map _, rfl⟩
  · exact ⟨rfl, rfl, rfl⟩

/-- What every operation keeps. A command replaces the buffer's bytes by a message, which has `MSG_LEN` bytes as well
(R70). -/
theorem runOp_frame {o : Op} {s t : State} (h : runOp o s = .next t) :
    t.cfg = s.cfg ∧ t.pix.length = s.pix.length ∧ (s.buf.length = s.cfg.msgLen → t.buf.length = s.cfg.msgLen) := by
  obtain ⟨req, i, -, hlen, -, run⟩ | ⟨req, c, -, hlen, -, rfl⟩ | ⟨req, f, -, hlen, -, rfl⟩ | ⟨n, -, run⟩ | ⟨-, run⟩ :=
    runOp_cases h
  · obtain ⟨hcfg, hpix, hbuf⟩ := exec_frame run
    exact ⟨hcfg, hpix, fun _ => hbuf.trans hlen⟩
  · obtain ⟨hpix, hbuf, -, hcfg, -⟩ := (s.withBuf req).raise_spec c
    exact ⟨hcfg, congrArg List.length hpix, fun _ => by rw [hbuf, List.length_set, State.withBuf_buf, hlen]⟩
  · obtain ⟨hpix, hcfg, -, hbuf, -⟩ := (s.withBuf req).answerForeign_spec f
    exact ⟨hcfg, congrArg List.length hpix, fun _ => hbuf.trans hlen⟩
  · obtain ⟨hcfg, hpix, hbuf⟩ := exec_frame run
    exact ⟨hcfg, hpix, hbuf.trans⟩
  · obtain ⟨hcfg, hpix, hbuf⟩ := exec_frame run
    exact ⟨hcfg, hpix, hbuf.trans⟩

/-- Settles O16: an operation keeps the three parts of the invariant (`runOp_frame`), a reset event restores them. -/
theorem stepKeepsLegalStates : Obligations.StepKeepsLegalStates := by
  rintro s t ⟨hwf, hpix, hbuf⟩ hstep
  obtain ⟨-, rfl⟩ | ⟨ab, q, -, rfl⟩ | ⟨o, q, -, -, run⟩ := step_cases hstep
  · exact ⟨hwf, hpix, hbuf⟩
  · exact ⟨hwf, List.length_replicate, List.length_replicate⟩
  · obtain ⟨hcfg, hpix', hbuf'⟩ := runOp_frame run
    rw [State.withQueue_cfg] at hcfg hbuf'
    rw [State.Wf, hcfg]
    exact ⟨hwf, hpix'.trans hpix, hbuf' hbuf⟩

/-- Settles O17: no case of a step writes the configuration; a reset makes `LED_COUNT` records, and nothing else makes or
drops one. -/
theorem configurationIsReadOnly : Obligations.ConfigurationIsReadOnly := by
  intro s t hstep
  obtain ⟨-, rfl⟩ | ⟨ab, q, -, rfl⟩ | ⟨o, q, -, -, run⟩ := step_cases hstep
  · exact ⟨rfl, fun _ => rfl⟩
  · exact ⟨rfl, fun hpix => List.length_replicate.trans hpix.symm⟩
  · obtain ⟨hcfg, hpix, -⟩ := runOp_frame run
    exact ⟨hcfg, fun _ => hpix⟩

end Sys2Proof.Machine.LegalStates
end

section
/-! LAW. One transaction (spec/00_scope.md R10, R11): the step that takes it, as one equation for each outcome of decoding it,
for a tick count or a frame request, for a reset event, and for the two stops. -/

namespace Sys2Proof.Machine.Transactions

open Sys2Proof.Machine.Failures Sys2Proof.Machine.RejectedMessages

section Step

variable {s : State} {req : List Byte} {q : List Event}

theorem step_of_decode_command {i : Instr} (hq : s.queue = .op (.command req) :: q) (hboot : s.inBootloader = false)
    (hlen : req.length = s.cfg.msgLen) (hdec : decode req = .command i) :
    step s = exec i ((s.withQueue q).withBuf req) := by
  rw [step_of_command hq hboot]
  simp only [runCommand, State.acceptsMessage, State.withQueue_cfg, beq_iff_eq, if_pos hlen, hdec]

theorem step_of_decode_foreign {f : Foreign} (hq : s.queue = .op (.command req) :: q) (hboot : s.inBootloader = false)
    (hlen : req.length = s.cfg.msgLen) (hdec : decode req = .foreign f) :
    step s = .next (((s.withQueue q).withBuf req).answerForeign f) := by
  rw [step_of_command hq hboot]
  simp only [runCommand, State.acceptsMessage, State.withQueue_cfg, beq_iff_eq, if_pos hlen, hdec]

theorem step_of_length_ne (hq : s.queue = .op (.command req) :: q) (hboot : s.inBootloader = false)
    (hlen : req.length ≠ s.cfg.msgLen) : step s = .fault .messageLength := by
  rw [step_of_command hq hboot]
  simp only [runCommand, State.acceptsMessage, State.withQueue_cfg, beq_iff_eq, if_neg hlen]

theorem step_of_tick {n : TickCount} (hq : s.queue = .op (.tick n) :: q) (hboot : s.inBootloader = false) :
    step s = exec (.tick n) (s.withQueue q) := by
  simp only [step_of_op hq, runOp, State.withQueue_inBootloader, hboot, Bool.false_eq_true, if_false]

theorem step_of_compose (hq : s.queue = .op .compose :: q) (hboot : s.inBootloader = false) :
    step s = exec .compose (s.withQueue q) := by
  simp only [step_of_op hq, runOp, State.withQueue_inBootloader, hboot, Bool.false_eq_true, if_false]

theorem step_of_reset {ab : Option Op} (hq : s.queue = .reset ab :: q) :
    step s = .next (s.withQueue q).resetEvent := by
  simp only [step, hq, runEvent]

/-- Between an enter-bootloader message and a reset no operation runs (R221, D31). -/
theorem step_refused {o : Op} (hq : s.queue = .op o :: q) (hboot : s.inBootloader = true) :
    step s = .refused .afterBootloader := by
  simp only [step_of_op hq, runOp, State.withQueue_inBootloader, hboot, if_true]

theorem step_idle (hq : s.queue = []) : step s = .next s := by
  simp only [step, hq]

end Step

/-- Settles O6: `step_of_decode_command`. -/
theorem stepRunsDecodedCommand : Obligations.StepRunsDecodedCommand :=
  fun _ _ _ _ hq hboot hlen hdec _ => step_of_decode_command hq hboot hlen hdec

/-- Settles O7: `step_of_tick` and `step_of_compose`. -/
theorem stepRunsPortOperations : Obligations.StepRunsPortOperations :=
  fun _ _ hboot => ⟨fun _ hq => step_of_tick hq hboot, fun hq => step_of_compose hq hboot⟩

/-- Settles O8: the step raises the decoder's cause on the message (`step_of_decode_fail`). -/
theorem undecodableMessageFails : Obligations.UndecodableMessageFails :=
  fun _ _ _ c hq hboot hlen hdec => ⟨_, step_of_decode_fail hq hboot hlen hdec, raise_failedWith _ c⟩

/-- Settles O19: `step_idle`. -/
theorem idleEngineKeepsItsState : Obligations.IdleEngineKeepsItsState :=
  fun _ hq => step_idle hq

/-- Settles O20: `step_of_length_ne`. -/
theorem messageOfAnotherLengthIsNoTransaction : Obligations.MessageOfAnotherLengthIsNoTransaction :=
  fun _ _ _ hq hboot hlen => step_of_length_ne hq hboot hlen

/-! ### Foreign messages and the bootloader -/

theorem isEnterBootloader_iff (f : Foreign) : isEnterBootloader f = true ↔ f = .enterBootloader := by
  cases f <;> simp [isEnterBootloader]

/-- Settles O11: the step is the shared answer to a foreign message (`State.answerForeign_spec`). -/
theorem foreignMessageChangesNoEngineState : Obligations.ForeignMessageChangesNoEngineState := by
  intro s req q f hq hboot hlen hdec
  obtain ⟨hpix, hcfg, hqueue, hbuf, hport, hseen, hleft⟩ := ((s.withQueue q).withBuf req).answerForeign_spec f
  refine ⟨_, step_of_decode_foreign hq hboot hlen hdec, hpix, hcfg, hqueue, hbuf.trans hlen, hport, hseen, ?_⟩
  rw [hleft, State.withBuf_inBootloader, State.withQueue_inBootloader, hboot, Bool.false_or, isEnterBootloader_iff]

theorem decode_enterBootloader : ∀ {req : List Byte}, req[0]? = some opEnterBootloader → 8 ≤ req.length →
    decode req = .foreign .enterBootloader
  | _ :: _ :: _ :: _ :: _ :: _ :: _ :: _ :: _, hfirst, _ => by
    obtain rfl := Option.some.inj hfirst
    rfl

/-- Settles O12: the message's answer sets the flag (`State.answerForeign_spec`) on which the next operation is refused
(`step_refused`) and which a reset clears (`State.resetEvent_spec`). -/
theorem nothingRunsAfterEnterBootloader : Obligations.NothingRunsAfterEnterBootloader := by
  intro s req e q hq hboot hlen h8 hfirst
  have hdec : decode req = .foreign .enterBootloader := decode_enterBootloader hfirst (hlen ▸ h8)
  obtain ⟨hpix, hcfg, hqueue, -, -, -, hleft⟩ := ((s.withQueue (e :: q)).withBuf req).answerForeign_spec .enterBootloader
  refine ⟨_, step_of_decode_foreign hq hboot hlen hdec, hpix, fun o he => ?_, fun ab he => ?_⟩
  · subst he
    exact step_refused hqueue (hleft.trans (Bool.or_true _))
  · subst he
    obtain ⟨hpix', -, -, -, -, hleft', -⟩ :=
      ((((s.withQueue (.reset ab :: q)).withBuf req).answerForeign .enterBootloader).withQueue q).resetEvent_spec
    refine ⟨_, step_of_reset hqueue, hleft', ?_⟩
    rw [hpix', State.withQueue_cfg, hcfg, State.withBuf_cfg, State.withQueue_cfg]

/-! ### Reset -/

/-- Settles O13: the step is the reset event (`State.resetEvent_spec`), and the new records are copies of one. -/
theorem resetEventRestoresEveryField : Obligations.ResetEventRestoresEveryField := by
  intro s ab q hq
  obtain ⟨hpix, -, hcfg, hport, hqueue, hleft, hseen⟩ := (s.withQueue q).resetEvent_spec
  refine ⟨_, step_of_reset hq, fun i => ?_, hcfg, hport, hqueue, hleft, hseen⟩
  rw [State.led_eq, hpix, List.getElem?_replicate, State.withQueue_cfg]

/-- Settles O14: every record of the power-on state is a copy of the default one. -/
theorem resetStateHoldsTheSpecDefaults : Obligations.ResetStateHoldsTheSpecDefaults := by
  refine ⟨List.length_replicate, fun i p hp => ?_⟩
  obtain rfl : p = resetDefaults := List.eq_of_mem_replicate (List.mem_of_getElem? hp)
  exact ⟨rfl, rfl, rfl, rfl, rfl, rfl, rfl⟩

/-- Settles O15: the test configuration is within its ranges, and the power-on state is built to its lengths. -/
theorem resetStateIsLegal : Obligations.ResetStateIsLegal := by
  have hcfg : Cfg.testConfig.Wf := by decide
  exact ⟨hcfg, List.length_replicate, List.length_replicate⟩

end Sys2Proof.Machine.Transactions
end

section
/-! LAW. The envelope counter is write-only (spec/10_state.md R28): every operation carries `SameButEnv` over
(`exec_sameButEnv`), since each of the three ways to rewrite or read a Pixel Record, a fill, a TICK and the projection,
gives the same visible result whatever the counter. -/

namespace Sys2Proof.Machine.EnvelopeCounter

open Sys2Proof.Machine.FillVisibility Sys2Proof.Machine.ComposeFrame Sys2Proof.Machine.TickEffects
  Sys2Proof.Machine.Failures

/-! ### One Pixel Record -/

theorem visible_apply (k a b : Nat) (p : Pixel) (x : Attr) :
    Pixel.visible (x.apply k a b p) = Pixel.visible (x.apply k a b (Pixel.visible p)) := by
  cases x <;> rfl

/-- The visible half of `tick_pixel` (R151, R152) takes nothing from the counter. -/
theorem visible_tickPixel_eq (c : Cfg) (n : TickCount) (p : Pixel) :
    Pixel.visible (tickPixel c n p) =
      { p with
        phase := if advances p.speed n then p.phase + 1 else p.phase
        out := effectFn c p.effect p.base p.phase
        env := 0 } := by
  simp only [tickPixel, Pixel.visible]
  cases advances p.speed n <;> rfl

theorem visible_tickPixel (c : Cfg) (n : TickCount) (p : Pixel) :
    Pixel.visible (tickPixel c n p) = Pixel.visible (tickPixel c n (Pixel.visible p)) := by
  rw [visible_tickPixel_eq, visible_tickPixel_eq]
  rfl

theorem project_visible (p : Pixel) : project (Pixel.visible p) = project p := rfl

/-! ### All Pixel Records -/

/-- Agreement of the lists, LED by LED. -/
theorem visible_pix_iff (s t : State) : s.pix.map Pixel.visible = t.pix.map Pixel.visible ↔
    ∀ k, (s.led k).map Pixel.visible = (t.led k).map Pixel.visible := by
  simp only [List.ext_getElem?_iff, List.getElem?_map, State.led_eq]

theorem fillRange_visible {s t : State} (h : s.pix.map Pixel.visible = t.pix.map Pixel.visible) (a b : Nat) (x : Attr) :
    (s.fillRange a b x).pix.map Pixel.visible = (t.fillRange a b x).pix.map Pixel.visible := by
  rw [visible_pix_iff] at h ⊢
  intro k
  have through (o : Option Pixel) : (o.map fun p => x.apply k a b p).map Pixel.visible =
      ((o.map Pixel.visible).map fun p => x.apply k a b p).map Pixel.visible := by
    simp only [Option.map_map, Function.comp_def, ← visible_apply]
  rw [State.fillRange_led, State.fillRange_led]
  split
  · rw [through, h k, ← through]
  · exact h k

theorem tick_visible {ps qs : List Pixel} (h : ps.map Pixel.visible = qs.map Pixel.visible) (c : Cfg) (n : TickCount) :
    (ps.map (tickPixel c n)).map Pixel.visible = (qs.map (tickPixel c n)).map Pixel.visible := by
  have through (rs : List Pixel) : (rs.map (tickPixel c n)).map Pixel.visible =
      ((rs.map Pixel.visible).map (tickPixel c n)).map Pixel.visible := by
    simp only [List.map_map, Function.comp_def, ← visible_tickPixel]
  rw [through ps, h, ← through qs]

/-- The frame reads visible fields alone (R172). -/
theorem frame_eq_of_visible {ps qs : List Pixel} (h : ps.map Pixel.visible = qs.map Pixel.visible) :
    ps.map project = qs.map project := by
  have through (rs : List Pixel) : rs.map project = (rs.map Pixel.visible).map project := by
    simp only [List.map_map, Function.comp_def, project_visible]
  rw [through ps, h, ← through qs]

/-! ### Operations -/

section Simulation

variable {s t : State}

theorem fillRange_sameButEnv (h : SameButEnv s t) (a b : Nat) (x : Attr) :
    SameButEnv (s.fillRange a b x) (t.fillRange a b x) := by
  obtain ⟨hpix, hrest⟩ := h
  exact ⟨fillRange_visible hpix a b x, hrest⟩

theorem withBuf_sameButEnv (h : SameButEnv s t) (m : List Byte) : SameButEnv (s.withBuf m) (t.withBuf m) := by
  obtain ⟨hpix, -, hrest⟩ := h
  exact ⟨hpix, rfl, hrest⟩

theorem withPort_sameButEnv (h : SameButEnv s t) (p : PortOut) : SameButEnv (s.withPort p) (t.withPort p) := by
  obtain ⟨hpix, hbuf, -, hrest⟩ := h
  exact ⟨hpix, hbuf, rfl, hrest⟩

theorem respond_sameButEnv (h : SameButEnv s t) (cause : Option FailCause) :
    SameButEnv (s.respond cause) (t.respond cause) := by
  have ⟨_, hbuf, _⟩ := h
  rw [State.respond, State.respond, hbuf]
  exact withPort_sameButEnv (withBuf_sameButEnv h _) _

theorem replyByte_sameButEnv (h : SameButEnv s t) (v : Byte) : SameButEnv (s.replyByte v) (t.replyByte v) := by
  have ⟨_, hbuf, _⟩ := h
  rw [State.replyByte, State.replyByte, hbuf]
  exact respond_sameButEnv (withBuf_sameButEnv h _) none

theorem ledSet_sameButEnv (h : SameButEnv s t) (sel : Selector) (val : Value) :
    SameButEnv (s.ledSet sel val) (t.ledSet sel val) := by
  have ⟨_, _, _, hcfg, _⟩ := h
  obtain ⟨c, hr, run⟩ | ⟨a, b, c, hr, hv, run⟩ | ⟨a, b, x, hr, hv, run⟩ := s.ledSet_cases sel val <;>
    rw [← hcfg] at hr <;> rw [run]
  · rw [State.ledSet_selector_error val hr]
    exact respond_sameButEnv h (some c)
  · rw [State.ledSet_value_error hr hv]
    exact respond_sameButEnv h (some c)
  · rw [State.ledSet_ok hr hv]
    exact respond_sameButEnv (fillRange_sameButEnv h a b x) none

/-- Every operation is answered alike from both states, and leaves them differing in envelope counters only. -/
theorem exec_sameButEnv (h : SameButEnv s t) {i : Instr} {s' : State} (run : exec i s = .next s') :
    ∃ t', exec i t = .next t' ∧ SameButEnv s' t' := by
  have ⟨hpix, hbuf, _, hrest⟩ := h
  have ⟨hcfg, _⟩ := hrest
  obtain ⟨sel, val, parts, e⟩ | ⟨rfl, e⟩ | ⟨rfl, e⟩ | ⟨rfl, e⟩ | ⟨n, rfl, e⟩ | ⟨rfl, e⟩ := exec_cases i s <;>
    rw [e, Host.Outcome.next.injEq] at run <;> subst run
  · exact ⟨_, exec_of_ledsetParts parts t, ledSet_sameButEnv h sel val⟩
  · refine ⟨_, rfl, ?_⟩
    rw [hcfg]
    exact replyByte_sameButEnv h _
  · refine ⟨_, rfl, ?_⟩
    rw [hcfg]
    exact replyByte_sameButEnv h _
  · exact ⟨_, rfl, respond_sameButEnv h none⟩
  · refine ⟨_, exec_tick n t, ?_, hbuf, rfl, hrest⟩
    rw [hcfg]
    exact tick_visible hpix s.cfg n
  · refine ⟨_, exec_compose t, ?_⟩
    rw [← frame_eq_of_visible hpix]
    exact withPort_sameButEnv h _

end Simulation

/-- Settles O47, by induction on the sequence: each operation carries the relation over (`exec_sameButEnv`). -/
theorem envelopeCounterIsUnobservable : Obligations.EnvelopeCounterIsUnobservable := by
  intro is
  induction is with
  | nil =>
    intro s t s' h hrun
    rw [execAll, Host.Outcome.next.injEq] at hrun
    exact ⟨t, rfl, hrun ▸ h⟩
  | cons i is ih =>
    intro s t s' h hrun
    obtain ⟨u, run, -⟩ := exec_answers i s
    obtain ⟨v, run', hv⟩ := exec_sameButEnv h run
    rw [execAll_cons_of_next run] at hrun
    obtain ⟨t', hrun', ht'⟩ := ih u v s' hv hrun
    exact ⟨t', (execAll_cons_of_next run' is).trans hrun', ht'⟩

end Sys2Proof.Machine.EnvelopeCounter
end

section
/-! LAW. What a fill leaves (spec/40_ledset_fill.md sections 2 to 6): once its selector resolves and its value is valid, an
LEDSET is `FilledBy` its value on the resolved range (`ledSet_filledBy`); the four selectors' ranges, gathered for one value
in `forms_fill`; and the six values' rules. -/

namespace Sys2Proof.Machine.Fills

open Sys2Proof.Machine.FillVisibility Sys2Proof.Machine.ComposeFrame

/-! ### The ranges of the four selectors -/

theorem resolve_single_of_lt {c : Cfg} {idx : Byte} (h : idx.toNat < c.ledCount) :
    resolve c (.single idx) = .ok (idx.toNat, idx.toNat) := by
  rw [resolve_single, if_neg (Nat.not_le.mpr h)]

theorem resolve_range_of_le {c : Cfg} {first last : Byte} (hle : first.toNat ≤ last.toNat)
    (hlt : last.toNat < c.ledCount) : resolve c (.range first last) = .ok (first.toNat, last.toNat) := by
  rw [resolve, if_neg (by omega), if_neg (by omega)]

theorem resolve_all (c : Cfg) : resolve c .all = .ok (0, c.ledCount - 1) := rfl

/-! ### A successful fill -/

theorem ledSet_filledBy {s : State} {sel : Selector} {val : Value} {a b : Nat} {x : Attr}
    (hr : resolve s.cfg sel = .ok (a, b)) (hv : validate val = .ok x) :
    FilledBy s (s.ledSet sel val) a b fun i p => x.apply i a b p := by
  rw [State.ledSet_ok hr hv]
  obtain ⟨hpix, hbuf, hport, hrest⟩ := (s.fillRange a b x).complete_spec
  obtain ⟨-, hbuf', hcfg, -, hqueue, hboot, hseen⟩ := s.fillRange_frame a b x
  rw [hcfg, hqueue, hboot, hseen] at hrest
  exact ⟨fun i => (State.led_congr hpix i).trans (s.fillRange_led a b x i), hbuf.trans hbuf', hport, hrest⟩

/-- One valid value through the four selectors (R101 to R104). -/
theorem forms_fill (s : State) {val : Value} {x : Attr} (hv : validate val = .ok x) :
    (∀ idx : Byte, idx.toNat < s.cfg.ledCount →
      FilledBy s (s.ledSet (.single idx) val) idx.toNat idx.toNat fun i p => x.apply i idx.toNat idx.toNat p) ∧
    (∀ first last : Byte, first.toNat ≤ last.toNat → last.toNat < s.cfg.ledCount →
      FilledBy s (s.ledSet (.range first last) val) first.toNat last.toNat
        fun i p => x.apply i first.toNat last.toNat p) ∧
    (∀ (sec : Byte) (y : SectionRecord), s.cfg.sections[sec.toNat]? = some y →
      FilledBy s (s.ledSet (.ofSection sec) val) y.first.toNat y.last.toNat
        fun i p => x.apply i y.first.toNat y.last.toNat p) ∧
    FilledBy s (s.ledSet .all val) 0 (s.cfg.ledCount - 1) fun i p => x.apply i 0 (s.cfg.ledCount - 1) p :=
  ⟨fun _ h => ledSet_filledBy (resolve_single_of_lt h) hv, fun _ _ hle hlt => ledSet_filledBy (resolve_range_of_le hle hlt) hv,
    fun _ _ h => ledSet_filledBy (resolve_section_some h) hv, ledSet_filledBy (resolve_all s.cfg) hv⟩

/-! ### The six values -/

theorem validate_effect (e : Effect) : validate (.effect e.toByte) = .ok (.effect e) := by
  rw [validate, Effect.ofByte_toByte]

theorem validate_effectSpaced (e : Effect) : validate (.effectSpaced e.toByte) = .ok (.effectSpaced e) := by
  rw [validate, Effect.ofByte_toByte]

/-- Settles O21: `forms_fill` at a colour, red first. -/
theorem colorFillWritesBase : Obligations.ColorFillWritesBase := by
  intro s r g b
  obtain ⟨single, multiple, sect, all⟩ := forms_fill s (val := .color r g b) rfl
  exact ⟨fun idx h => ⟨_, rfl, single idx h⟩, fun first last hle hlt => ⟨_, rfl, multiple first last hle hlt⟩,
    fun sec x h => ⟨_, rfl, sect sec x h⟩, ⟨_, rfl, all⟩⟩

/-- Settles O22: `forms_fill` at an effect, whose rule clears the phase. -/
theorem effectFillWritesEffectAndClearsPhase : Obligations.EffectFillWritesEffectAndClearsPhase := by
  intro s e
  obtain ⟨single, multiple, sect, all⟩ := forms_fill s (validate_effect e)
  exact ⟨fun idx h => ⟨_, rfl, single idx h⟩, fun first last hle hlt => ⟨_, rfl, multiple first last hle hlt⟩,
    fun sec x h => ⟨_, rfl, sect sec x h⟩, ⟨_, rfl, all⟩⟩

/-- Settles O23: `forms_fill` at a spaced effect, whose phase is `spread` from the resolved bounds. -/
theorem spacedFillSpreadsPhase : Obligations.SpacedFillSpreadsPhase := by
  intro s e
  obtain ⟨single, multiple, sect, all⟩ := forms_fill s (validate_effectSpaced e)
  exact ⟨fun idx h => ⟨_, rfl, single idx h⟩, fun first last hle hlt => ⟨_, rfl, multiple first last hle hlt⟩,
    fun sec x h => ⟨_, rfl, sect sec x h⟩, ⟨_, rfl, all⟩⟩

/-- Settles O24: `forms_fill` at a phase. -/
theorem phaseFillReplacesPhase : Obligations.PhaseFillReplacesPhase := by
  intro s v
  obtain ⟨single, multiple, sect, all⟩ := forms_fill s (val := .phase v) rfl
  exact ⟨fun idx h => ⟨_, rfl, single idx h⟩, fun first last hle hlt => ⟨_, rfl, multiple first last hle hlt⟩,
    fun sec x h => ⟨_, rfl, sect sec x h⟩, ⟨_, rfl, all⟩⟩

/-- Settles O25: `forms_fill` at a speed. -/
theorem speedFillWritesSpeed : Obligations.SpeedFillWritesSpeed := by
  intro s v
  obtain ⟨single, multiple, sect, all⟩ := forms_fill s (val := .speed v) rfl
  exact ⟨fun idx h => ⟨_, rfl, single idx h⟩, fun first last hle hlt => ⟨_, rfl, multiple first last hle hlt⟩,
    fun sec x h => ⟨_, rfl, sect sec x h⟩, ⟨_, rfl, all⟩⟩

/-- A legal state has no LED at or above `LED_COUNT` (R20). -/
theorem lt_ledCount_of_led {s : State} (hs : s.Wf) {k : Nat} {p : Pixel} (h : s.led k = some p) : k < s.cfg.ledCount := by
  obtain ⟨-, hpix, -⟩ := hs
  obtain ⟨hk, -⟩ := List.getElem?_eq_some_iff.mp h
  exact hpix ▸ hk

/-- A COMPOSE after a brightness fill of the whole strip shows every LED of a legal state at that brightness. -/
theorem allBrightness_frame {s : State} (hs : s.Wf) (v : Byte) :
    ∃ t frame, execAll [.ledsetAllBrightness v, .compose] s = .next t ∧ t.port = .frame frame ∧
      frame.length = s.cfg.ledCount ∧ ∀ k p, s.led k = some p → frame[k]? = some (project { p with brightness := v }) := by
  obtain ⟨t, frame, run, hport, hshown⟩ :=
    brightnessFill_frame (i := .ledsetAllBrightness v) rfl (s := s) (a := 0) (b := s.cfg.ledCount - 1) rfl
  have hframe : (s.ledSet .all (.brightness v)).pix.map project = frame :=
    PortOut.frame.inj ((congrArg State.port (Host.Outcome.next.inj run)).trans hport)
  refine ⟨t, frame, run, hport, ?_, fun k p hp => hshown k p k.zero_le ?_ hp⟩
  · obtain ⟨-, hpix, -⟩ := hs
    obtain ⟨hlen, -⟩ := s.ledSet_frame .all (.brightness v)
    rw [← hframe, List.length_map, hlen, hpix]
  · have := lt_ledCount_of_led hs hp
    omega

/-- Settles O26: `forms_fill` at a brightness. -/
theorem brightnessFillWritesBrightness : Obligations.BrightnessFillWritesBrightness := by
  intro s v
  obtain ⟨single, multiple, sect, all⟩ := forms_fill s (val := .brightness v) rfl
  refine ⟨fun idx h => ⟨_, rfl, single idx h⟩, fun first last hle hlt => ⟨_, rfl, multiple first last hle hlt⟩,
    fun sec x h => ⟨_, rfl, sect sec x h⟩, ⟨_, rfl, all⟩, fun _ _ _ _ => ⟨rfl, rfl, rfl, rfl⟩, fun hs => ?_⟩
  obtain ⟨t, frame, run, hport, hlen, hshown⟩ := allBrightness_frame hs 128
  exact ⟨t, frame, run, hport, hlen, fun i p hp => ⟨_, hshown i p hp, project_toNat _⟩⟩

/-! ### The spread phase (R108) -/

/-- The number of LEDs divides the spread, so the last LED stays below 255 and the byte truncates nothing. -/
theorem spread_bound {i a b : Nat} (hi : i ≤ b) : (i - a) * 255 / (b - a + 1) ≤ 254 := by
  have hlt : (i - a) * 255 / (b - a + 1) < 255 := by
    rw [Nat.div_lt_iff_lt_mul (Nat.succ_pos _)]
    omega
  omega

theorem spread_toNat {i a b : Nat} (hi : i ≤ b) : (spread i a b).toNat = (i - a) * 255 / (b - a + 1) := by
  rw [spread, BitVec.toNat_ofNat]
  exact Nat.mod_eq_of_lt (Nat.lt_of_le_of_lt (spread_bound hi) (by decide))

/-- Settles O27: the quotient fits its byte (`spread_toNat`), and a quotient grows with its dividend. -/
theorem spreadPhaseFitsItsByte : Obligations.SpreadPhaseFitsItsByte := by
  intro a b i hai hib
  rw [spread_toNat hib, spread_toNat (hai.trans hib)]
  refine ⟨rfl, spread_bound hib, by simp, fun j hij hjb => ?_⟩
  rw [spread_toNat hjb]
  exact Nat.div_le_div_right (Nat.mul_le_mul_right 255 (Nat.sub_le_sub_right hij a))

/-- Settles O28: a byte is an id when it is below 4 (`Effect.ofByte_eq_none_iff`), and it is then the id of the effect it
names (`Effect.ofByte_eq_some_iff`). -/
theorem effectIdsNumberTheTable : Obligations.EffectIdsNumberTheTable := by
  refine ⟨rfl, rfl, rfl, rfl, fun eff => ?_⟩
  rw [← Nat.not_le, ← Effect.ofByte_eq_none_iff, ← ne_eq, Option.ne_none_iff_exists']
  exact exists_congr fun e => (Effect.ofByte_eq_some_iff eff e).trans eq_comm

end Sys2Proof.Machine.Fills
end

section
/-! LAW. Operands (spec/40_ledset_fill.md R101 to R105, spec/60_exceptions.md R191, R193): which selectors and values fail and
with what cause, what a single index does when it exists, and the agreement of `Instr.operandsOk` with the outcome. -/

namespace Sys2Proof.Machine.Operands

open Sys2Proof.Machine.Fills Sys2Proof.Machine.LedsetWrites Sys2Proof.Machine.Failures

/-! ### Failing selectors and values -/

theorem ledSet_selector_fails {s : State} {sel : Selector} {c : FailCause} (hr : resolve s.cfg sel = .error c)
    (val : Value) : FailedWith s (s.ledSet sel val) c :=
  State.ledSet_selector_error val hr ▸ raise_failedWith s c

theorem ledSet_value_fails {s : State} {sel : Selector} {val : Value} {c : FailCause} {r : Nat × Nat}
    (hr : resolve s.cfg sel = .ok r) (hv : validate val = .error c) : FailedWith s (s.ledSet sel val) c :=
  State.ledSet_value_error hr hv ▸ raise_failedWith s c

theorem resolve_range_outside {c : Cfg} {first last : Byte} (h : c.ledCount ≤ first.toNat ∨ c.ledCount ≤ last.toNat) :
    resolve c (.range first last) = .error .index := by
  rw [resolve, if_pos h]

theorem resolve_range_inverted {c : Cfg} {first last : Byte} (hlt : first.toNat < c.ledCount)
    (hinv : last.toNat < first.toNat) : resolve c (.range first last) = .error .range := by
  rw [resolve, if_neg (by omega), if_pos hinv]

theorem resolve_section_of_lt {c : Cfg} {sec : Byte} (h : sec.toNat < c.sectionCount) :
    ∃ r, resolve c (.ofSection sec) = .ok r :=
  ⟨_, resolve_section_some (List.getElem?_eq_getElem h)⟩

/-- An effect form's value fails at a resolved selector where its id is not in the effect table (R105, D8). -/
theorem effectForms_fail {s : State} {sel : Selector} {r : Nat × Nat} {eff : Byte} (heff : 4 ≤ eff.toNat)
    (hr : resolve s.cfg sel = .ok r) :
    FailedWith s (s.ledSet sel (.effect eff)) .effect ∧ FailedWith s (s.ledSet sel (.effectSpaced eff)) .effect := by
  have hnone : Effect.ofByte eff = none := (Effect.ofByte_eq_none_iff eff).mpr heff
  exact ⟨ledSet_value_fails hr (by rw [validate, hnone]), ledSet_value_fails hr (by rw [validate, hnone])⟩

/-- Settles O30: the selector of a MULTIPLE form fails first on its indices, then on their order. -/
theorem multipleRangeMustExistAndRise : Obligations.MultipleRangeMustExistAndRise := by
  intro s first last r g b eff v i hi
  have parts : ∃ val, ledsetParts i = some (.range first last, val) := by
    simp only [List.mem_cons, List.not_mem_nil, or_false] at hi
    obtain rfl | rfl | rfl | rfl | rfl | rfl := hi <;> exact ⟨_, rfl⟩
  obtain ⟨val, parts⟩ := parts
  have run := exec_of_ledsetParts parts s
  exact ⟨fun h => ⟨_, run, ledSet_selector_fails (resolve_range_outside h) val⟩,
    fun hlt hinv => ⟨_, run, ledSet_selector_fails (resolve_range_inverted hlt hinv) val⟩⟩

/-- Settles O31: the selector of a SECTION form fails where the table has no entry (`resolve_section_none`). -/
theorem sectionIdMustExist : Obligations.SectionIdMustExist := by
  intro s sec r g b eff v i hi hsec
  have parts : ∃ val, ledsetParts i = some (.ofSection sec, val) := by
    simp only [List.mem_cons, List.not_mem_nil, or_false] at hi
    obtain rfl | rfl | rfl | rfl | rfl | rfl := hi <;> exact ⟨_, rfl⟩
  obtain ⟨val, parts⟩ := parts
  exact ⟨_, exec_of_ledsetParts parts s, ledSet_selector_fails (resolve_section_none hsec) val⟩

/-- Settles O32: each of the four selectors resolves, so the value's check decides (`effectForms_fail`). -/
theorem effectIdMustBeInTable : Obligations.EffectIdMustBeInTable := by
  intro s idx first last sec eff heff
  simp only [List.forall_mem_cons, List.not_mem_nil, false_imp_iff, implies_true, and_true]
  refine ⟨fun hidx => ?_, fun hle hlt => ?_, fun hsec => ?_, ?_⟩
  · obtain ⟨plain, spaced⟩ := effectForms_fail heff (resolve_single_of_lt hidx)
    exact ⟨⟨_, rfl, plain⟩, ⟨_, rfl, spaced⟩⟩
  · obtain ⟨plain, spaced⟩ := effectForms_fail heff (resolve_range_of_le hle hlt)
    exact ⟨⟨_, rfl, plain⟩, ⟨_, rfl, spaced⟩⟩
  · obtain ⟨r, hr⟩ := resolve_section_of_lt hsec
    obtain ⟨plain, spaced⟩ := effectForms_fail heff hr
    exact ⟨⟨_, rfl, plain⟩, ⟨_, rfl, spaced⟩⟩
  · obtain ⟨plain, spaced⟩ := effectForms_fail heff (resolve_all s.cfg)
    exact ⟨⟨_, rfl, plain⟩, ⟨_, rfl, spaced⟩⟩

/-! ### A single LED -/

/-- Over one LED the spread has nothing to spread (R108). -/
theorem apply_effectSpaced_one (e : Effect) (k : Nat) (p : Pixel) :
    Attr.apply k k k p (.effectSpaced e) = { p with effect := e, phase := 0 } := by
  simp [Attr.apply, spread]

/-- Only the records inside the range count for what a fill left there. -/
theorem filledBy_congr {s t : State} {a b : Nat} {f g : Nat → Pixel → Pixel} (h : FilledBy s t a b f)
    (hfg : ∀ i, a ≤ i → i ≤ b → f i = g i) : FilledBy s t a b g := by
  obtain ⟨hled, hrest⟩ := h
  refine ⟨fun i => (hled i).trans ?_, hrest⟩
  split
  next hi =>
    obtain ⟨hle, hge⟩ := hi
    rw [hfg i hle hge]
  next => rfl

/-- Settles O29: an index outside the strip fails the selector; one inside resolves to its LED alone, which takes the value
of the form (`ledSet_filledBy`), the spread phase being 0 there. -/
theorem singleIndexMustExist : Obligations.SingleIndexMustExist := by
  intro s idx r g b v
  refine ⟨fun hidx eff i hi => ?_, fun hidx e form hform => ?_⟩
  · have fails (val : Value) : FailedWith s (s.ledSet (.single idx) val) .index :=
      ledSet_selector_fails (by rw [resolve_single, if_pos hidx]) val
    simp only [List.mem_cons, List.not_mem_nil, or_false] at hi
    obtain rfl | rfl | rfl | rfl | rfl | rfl := hi <;> exact ⟨_, rfl, fails _⟩
  · have fills {val : Value} {x : Attr} (hv : validate val = .ok x) :
        FilledBy s (s.ledSet (.single idx) val) idx.toNat idx.toNat fun i p => x.apply i idx.toNat idx.toNat p :=
      ledSet_filledBy (resolve_single_of_lt hidx) hv
    simp only [List.mem_cons, List.not_mem_nil, or_false] at hform
    obtain rfl | rfl | rfl | rfl | rfl | rfl := hform
    · exact ⟨_, rfl, fills (val := .color r g b) rfl⟩
    · exact ⟨_, rfl, fills (validate_effect e)⟩
    · refine ⟨_, rfl, filledBy_congr (fills (validate_effectSpaced e)) fun i hle hge => ?_⟩
      obtain rfl : i = idx.toNat := Nat.le_antisymm hge hle
      exact funext (apply_effectSpaced_one e _)
    · exact ⟨_, rfl, fills (val := .phase v) rfl⟩
    · exact ⟨_, rfl, fills (val := .speed v) rfl⟩
    · exact ⟨_, rfl, fills (val := .brightness v) rfl⟩

/-! ### Success is good operands -/

/-- The selector's half of `Instr.operandsOk`; `selectorOk_iff` ties it to the model. -/
def selectorOk (c : Cfg) : Selector → Bool
  | .single idx => ledOk c idx
  | .range first last => rangeOk c first last
  | .ofSection sec => sectionOk c sec
  | .all => true

/-- The value's half of `Instr.operandsOk`; `valueOk_iff` ties it to the model. -/
def valueOk : Value → Bool
  | .color _ _ _ => true
  | .effect eff => effectOk eff
  | .effectSpaced eff => effectOk eff
  | .phase _ => true
  | .speed _ => true
  | .brightness _ => true

theorem operandsOk_eq {i : Instr} {sel : Selector} {val : Value} (parts : ledsetParts i = some (sel, val)) (c : Cfg) :
    i.operandsOk c = (selectorOk c sel && valueOk val) := by
  cases i <;> simp only [ledsetParts, Option.some.injEq, Prod.mk.injEq, reduceCtorEq] at parts <;>
    obtain ⟨rfl, rfl⟩ := parts <;> simp [Instr.operandsOk, selectorOk, valueOk]

theorem selectorOk_iff (c : Cfg) (sel : Selector) : selectorOk c sel = true ↔ ∃ r, resolve c sel = .ok r := by
  cases sel with
  | single idx =>
    simp only [selectorOk, ledOk, decide_eq_true_eq, resolve_single]
    split_ifs with hout
    · simp
      omega
    · simp
      omega
  | range first last =>
    simp only [selectorOk, rangeOk, ledOk, Bool.and_eq_true, decide_eq_true_eq, resolve]
    split_ifs with hout hinv
    · simp
      omega
    · simp
      omega
    · simp
      omega
  | ofSection sec =>
    simp only [selectorOk, sectionOk, decide_eq_true_eq]
    refine ⟨resolve_section_of_lt, fun ⟨r, hr⟩ => Nat.lt_of_not_le fun hle => ?_⟩
    simp [resolve_section_none hle] at hr
  | all => simp [selectorOk, resolve_all]

theorem valueOk_iff (val : Value) : valueOk val = true ↔ ∃ x, validate val = .ok x := by
  cases val with
  | color | phase | speed | brightness => simp [valueOk, validate]
  | effect eff | effectSpaced eff =>
    rw [valueOk, effectOk, decide_eq_true_eq, ← Nat.not_le, ← Effect.ofByte_eq_none_iff, validate]
    cases Effect.ofByte eff <;> simp

theorem ledsetResult_eq_none_iff (c : Cfg) (sel : Selector) (val : Value) :
    ledsetResult c sel val = none ↔ (∃ r, resolve c sel = .ok r) ∧ ∃ x, validate val = .ok x := by
  unfold ledsetResult
  cases resolve c sel <;> cases validate val <;> simp

/-- How an LEDSET ends, in the statements' terms (R114). -/
theorem ledSet_ends_by_result (s : State) (sel : Selector) (val : Value) :
    (ledsetResult s.cfg sel val = none ∧ (s.ledSet sel val).port = .response none) ∨
      ∃ c, ledsetResult s.cfg sel val = some c ∧ FailedWith s (s.ledSet sel val) c := by
  obtain ⟨c, hr, -⟩ | ⟨a, b, c, hr, hv, -⟩ | ⟨a, b, x, hr, hv, h⟩ := s.ledSet_cases sel val
  · exact .inr ⟨c, by rw [ledsetResult, hr], ledSet_selector_fails hr val⟩
  · exact .inr ⟨c, by rw [ledsetResult, hr, hv], ledSet_value_fails hr hv⟩
  · obtain ⟨-, -, hport, -⟩ := (s.fillRange a b x).complete_spec
    exact .inl ⟨by rw [ledsetResult, hr, hv], h ▸ hport⟩

/-- A command that is no LEDSET has no operand to be wrong, and completes. -/
theorem exec_other_command {i : Instr} (hi : i.wellFormed = true) (parts : ledsetParts i = none) (s : State) :
    i.operandsOk s.cfg = true ∧ ∃ t, exec i s = .next t ∧ t.port = .response none := by
  cases i <;> simp only [ledsetParts, reduceCtorEq] at parts
  case tick | compose => simp [Instr.wellFormed] at hi
  all_goals exact ⟨rfl, _, rfl, rfl⟩

/-- Settles O33: an LEDSET's result is none exactly when its operands are good (`operandsOk_eq`), and a result is a full
failure (`ledSet_ends_by_result`); the other commands complete. -/
theorem commandSucceedsIffOperandsNameSomething : Obligations.CommandSucceedsIffOperandsNameSomething := by
  intro i s hi
  cases parts : ledsetParts i with
  | none =>
    obtain ⟨hok, t, run, hport⟩ := exec_other_command hi parts s
    exact ⟨t, run, by simp [hport, hok], by simp [hok]⟩
  | some p =>
    obtain ⟨sel, val⟩ := p
    have hok : ledsetResult s.cfg sel val = none ↔ i.operandsOk s.cfg = true := by
      rw [operandsOk_eq parts, ledsetResult_eq_none_iff, Bool.and_eq_true, selectorOk_iff, valueOk_iff]
    refine ⟨_, exec_of_ledsetParts parts s, ?_⟩
    obtain ⟨hnone, hport⟩ | ⟨c, hsome, failed⟩ := ledSet_ends_by_result s sel val
    · have hgood := hok.mp hnone
      exact ⟨by simp [hport, hgood], by simp [hgood]⟩
    · have hbad : i.operandsOk s.cfg = false := by simp [← Bool.not_eq_true, ← hok, hsome]
      obtain ⟨-, -, hport, -⟩ := id failed
      exact ⟨by simp [hport, hbad], fun _ => ⟨c, failed⟩⟩

/-! ### Forms that name the same range -/

theorem ledSet_congr_range {s : State} {sel sel' : Selector} (h : resolve s.cfg sel = resolve s.cfg sel') (val : Value) :
    (Host.Outcome.next (s.ledSet sel val) : Host.Outcome State Fault Refusal) = .next (s.ledSet sel' val) := by
  rw [State.ledSet, State.ledSet, h]

theorem resolve_single_eq_range (c : Cfg) (idx : Byte) : resolve c (.single idx) = resolve c (.range idx idx) := by
  simp [resolve]

/-- The table's bounds are LED indices in order (R32), so naming them explicitly names the same range. -/
theorem resolve_section_eq_range {c : Cfg} (hc : c.Wf) {sec : Byte} {x : SectionRecord}
    (h : c.sections[sec.toNat]? = some x) : resolve c (.ofSection sec) = resolve c (.range x.first x.last) := by
  obtain ⟨-, -, -, -, hsections⟩ := hc
  obtain ⟨hle, hlt⟩ := hsections x (List.mem_of_getElem? h)
  rw [resolve_section_some h, resolve_range_of_le hle hlt]

/-- The last LED's index fits its byte (R4). -/
theorem resolve_all_eq_range {c : Cfg} (hc : c.Wf) :
    resolve c .all = resolve c (.range 0 (BitVec.ofNat 8 (c.ledCount - 1))) := by
  obtain ⟨hpos, hmax, -⟩ := hc
  have hlast : (BitVec.ofNat 8 (c.ledCount - 1)).toNat = c.ledCount - 1 := by
    rw [BitVec.toNat_ofNat]
    omega
  rw [resolve_all, resolve_range_of_le (Nat.zero_le _) (by omega), hlast]
  rfl

/-- Settles O37: an LEDSET sees its selector through the range it resolves to (`ledSet_congr_range`), so one equation of
ranges serves the six values. -/
theorem everyModeIsAnExplicitRange : Obligations.EveryModeIsAnExplicitRange := by
  rintro s r g b eff v ⟨hcfg, -⟩
  refine ⟨fun idx => ?_, fun sec x hx => ?_, ?_⟩
  · have same := ledSet_congr_range (resolve_single_eq_range s.cfg idx)
    exact ⟨same (.color r g b), same (.effect eff), same (.effectSpaced eff), same (.phase v), same (.speed v),
      same (.brightness v)⟩
  · have same := ledSet_congr_range (resolve_section_eq_range hcfg hx)
    exact ⟨same (.color r g b), same (.effect eff), same (.effectSpaced eff), same (.phase v), same (.speed v),
      same (.brightness v)⟩
  · have same := ledSet_congr_range (resolve_all_eq_range hcfg)
    exact ⟨same (.color r g b), same (.effect eff), same (.effectSpaced eff), same (.phase v), same (.speed v),
      same (.brightness v)⟩

/-! ### Repetition -/

theorem fillRange_fillRange (s : State) (a b : Nat) (x : Attr) :
    (s.fillRange a b x).fillRange a b x = s.fillRange a b x := by
  have hpix : ((s.fillRange a b x).fillRange a b x).pix = (s.fillRange a b x).pix := by
    refine List.ext_getElem? fun k => ?_
    rw [← State.led_eq, ← State.led_eq, State.fillRange_led, State.fillRange_led]
    split
    · simp only [Option.map_map, Function.comp_def, Attr.apply_twice]
    · rfl
  exact congrArg s.withPix hpix

/-- The answer and the fill do not meet: one writes the port, the other the records. -/
theorem complete_fillRange_complete (s : State) (a b : Nat) (x : Attr) :
    (s.complete.fillRange a b x).complete = (s.fillRange a b x).complete := rfl

/-- Settles O36: the second fill finds the same configuration, so the same range and value, and writes what is there
(`fillRange_fillRange`). -/
theorem ledsetIsIdempotent : Obligations.LedsetIsIdempotent := by
  intro i s t hi ht hport
  obtain ⟨sel, val, parts⟩ := (isLedset_iff_parts i).mp hi
  rw [exec_of_ledsetParts parts, Host.Outcome.next.injEq] at ht ⊢
  obtain ⟨c, -, h⟩ | ⟨-, -, c, -, -, h⟩ | ⟨a, b, x, hr, hv, h⟩ := s.ledSet_cases sel val
  · rw [← ht, h] at hport
    cases hport
  · rw [← ht, h] at hport
    cases hport
  · obtain rfl : (s.fillRange a b x).complete = t := h ▸ ht
    have hr' : resolve (s.fillRange a b x).complete.cfg sel = .ok (a, b) := hr
    rw [State.ledSet_ok hr' hv, complete_fillRange_complete, fillRange_fillRange]

end Sys2Proof.Machine.Operands
end

section
/-! LAW. Who writes which field (spec/10_state.md R20 to R28): the value of a fill decides what it may assign
(`ledsetWrites_keepsToKind`), so of the operations only the forms of a field's own kind, and TICK for the animation fields, change
it (`exec_led_cases`); and a step without TICK or reset leaves `out` and `env` (`runOp_keeps_out_env`). -/

namespace Sys2Proof.Machine.FieldWriters

open Sys2Proof.Machine.LedsetWrites Sys2Proof.Machine.TickEffects Sys2Proof.Machine.FillVisibility
  Sys2Proof.Machine.Failures

/-! ### The form of a value -/

section Kinds

variable {i : Instr} {sel : Selector}

theorem isColor_of_parts {r g b : Byte} (parts : ledsetParts i = some (sel, .color r g b)) : isColor i = true := by
  cases i
  case ledsetSingleColor | ledsetMultipleColor | ledsetSectionColor | ledsetAllColor => rfl
  all_goals simp [ledsetParts] at parts

theorem isEffect_of_parts {eff : Byte}
    (parts : ledsetParts i = some (sel, .effect eff) ∨ ledsetParts i = some (sel, .effectSpaced eff)) :
    isEffect i = true := by
  cases i
  case ledsetSingleEffect | ledsetMultipleEffect | ledsetSectionEffect | ledsetAllEffect => rfl
  case ledsetSingleEffectSpaced | ledsetMultipleEffectSpaced | ledsetSectionEffectSpaced | ledsetAllEffectSpaced => rfl
  all_goals simp [ledsetParts] at parts

theorem isPhase_of_parts {v : Byte} (parts : ledsetParts i = some (sel, .phase v)) : isPhase i = true := by
  cases i
  case ledsetSinglePhase | ledsetMultiplePhase | ledsetSectionPhase | ledsetAllPhase => rfl
  all_goals simp [ledsetParts] at parts

theorem isSpeed_of_parts {v : Byte} (parts : ledsetParts i = some (sel, .speed v)) : isSpeed i = true := by
  cases i
  case ledsetSingleSpeed | ledsetMultipleSpeed | ledsetSectionSpeed | ledsetAllSpeed => rfl
  all_goals simp [ledsetParts] at parts

end Kinds

/-- The form `i` keeps to its own fields: what is not of its kind it does not assign. -/
def KeepsToKind (i : Instr) (w : Writes) : Prop :=
  (isColor i = false → w.base = none) ∧ (isEffect i = false → w.effect = none) ∧
    (isEffect i = false → isPhase i = false → w.phase = none) ∧ (isSpeed i = false → w.speed = none) ∧
    (isBrightness i = false → w.brightness = none)

theorem keepsToKind_nothing (i : Instr) : KeepsToKind i {} :=
  ⟨fun _ => rfl, fun _ => rfl, fun _ _ => rfl, fun _ => rfl, fun _ => rfl⟩

theorem attrWrites_keepsToKind {i : Instr} {sel : Selector} {val : Value} {x : Attr}
    (parts : ledsetParts i = some (sel, val)) (hv : validate val = .ok x) (k a b : Nat) :
    KeepsToKind i (attrWrites k a b x) := by
  cases val with
  | color r g b =>
    obtain rfl := Except.ok.inj hv
    have hkind := isColor_of_parts parts
    simp [KeepsToKind, attrWrites, hkind]
  | effect eff =>
    have hkind := isEffect_of_parts (.inl parts)
    simp only [validate] at hv
    split at hv <;> cases hv
    simp [KeepsToKind, attrWrites, hkind]
  | effectSpaced eff =>
    have hkind := isEffect_of_parts (.inr parts)
    simp only [validate] at hv
    split at hv <;> cases hv
    simp [KeepsToKind, attrWrites, hkind]
  | phase v =>
    obtain rfl := Except.ok.inj hv
    have hkind := isPhase_of_parts parts
    simp [KeepsToKind, attrWrites, hkind]
  | speed v =>
    obtain rfl := Except.ok.inj hv
    have hkind := isSpeed_of_parts parts
    simp [KeepsToKind, attrWrites, hkind]
  | brightness v =>
    obtain rfl := Except.ok.inj hv
    have hkind := isBrightness_of_parts parts
    simp [KeepsToKind, attrWrites, hkind]

theorem ledsetWrites_keepsToKind {i : Instr} {sel : Selector} {val : Value} (parts : ledsetParts i = some (sel, val))
    (a b k : Nat) : KeepsToKind i (ledsetWrites val a b k) := by
  cases hv : validate val with
  | error c => exact ledsetWrites_of_invalid hv a b k ▸ keepsToKind_nothing i
  | ok x =>
    rw [ledsetWrites_of_valid hv]
    split
    · exact attrWrites_keepsToKind parts hv k a b
    · exact keepsToKind_nothing i

/-- What any operation does to the record of LED `k`: it makes assignments of its own kind, or it is a TICK. -/
theorem exec_led_cases {i : Instr} {s t : State} (h : exec i s = .next t) (k : Nat) :
    (∃ w, KeepsToKind i w ∧ t.led k = (s.led k).map w.on) ∨
      ∃ n, i = .tick n ∧ t.led k = (s.led k).map (tickPixel s.cfg n) := by
  have kept (hpix : t.pix = s.pix) : ∃ w, KeepsToKind i w ∧ t.led k = (s.led k).map w.on :=
    ⟨{}, keepsToKind_nothing i, by rw [State.led_congr hpix, Writes.on_nothing, Option.map_id, id]⟩
  obtain ⟨sel, val, parts, run⟩ | ⟨-, run⟩ | ⟨-, run⟩ | ⟨-, run⟩ | ⟨n, rfl, -⟩ | ⟨-, run⟩ := exec_cases i s
  case inr.inr.inr.inr.inl => exact .inr ⟨n, rfl, tick_led h k⟩
  all_goals
    rw [run, Host.Outcome.next.injEq] at h
    subst h
    left
  · cases hr : resolve s.cfg sel with
    | error c => exact kept (ledSet_pix_of_unresolved hr val)
    | ok r =>
      obtain ⟨a, b⟩ := r
      exact ⟨_, ledsetWrites_keepsToKind parts a b k, ledSet_led_of_resolve hr val k⟩
  all_goals exact kept rfl

/-- Settles O35: assignments stay in their kind (`KeepsToKind`) and never touch `out` and `env`; a TICK is `tickPixel_spec`. -/
theorem eachFieldHasOnlyItsWriters : Obligations.EachFieldHasOnlyItsWriters := by
  intro i s t h k p p' hp hp'
  obtain ⟨w, ⟨hbase, heffect, hphase, hspeed, hbright⟩, hled⟩ | ⟨n, rfl, hled⟩ := exec_led_cases h k <;>
    rw [hp, hp', Option.map_some, Option.some.injEq] at hled <;> subst hled
  · refine ⟨fun hi => ?_, fun hi => ?_, fun hi hi' _ => ?_, fun hi => ?_, fun hi => ?_, fun _ => ⟨rfl, rfl⟩⟩
    · simp [Writes.on, hbase hi]
    · simp [Writes.on, heffect hi]
    · simp [Writes.on, hphase hi hi']
    · simp [Writes.on, hspeed hi]
    · simp [Writes.on, hbright hi]
  · obtain ⟨hbase, heffect, hspeed, hbright, -⟩ := tickPixel_spec s.cfg n p
    exact ⟨fun _ => hbase, fun _ => heffect, fun _ _ htick => absurd htick (by simp [isTick]), fun _ => hspeed,
      fun _ => hbright, fun htick => absurd htick (by simp [isTick])⟩

/-! ### The output and the envelope counter -/

/-- The two fields no command writes. -/
abbrev outEnv (p : Pixel) : Colour × Byte := (p.out, p.env)

theorem exec_keeps_out_env {i : Instr} (htick : isTick i = false) {s t : State} (h : exec i s = .next t) :
    t.pix.map outEnv = s.pix.map outEnv := by
  refine List.ext_getElem? fun k => ?_
  rw [List.getElem?_map, List.getElem?_map, ← State.led_eq, ← State.led_eq]
  obtain ⟨w, -, hled⟩ | ⟨n, rfl, -⟩ := exec_led_cases h k
  · rw [hled, Option.map_map]
    rfl
  · simp [isTick] at htick

/-- No message decodes to a TICK (R84). -/
theorem isTick_of_wellFormed {i : Instr} (h : i.wellFormed = true) : isTick i = false := by
  cases i
  case tick => simp [Instr.wellFormed] at h
  all_goals rfl

theorem runOp_keeps_out_env {o : Op} {s t : State} (h : runOp o s = .next t) (htick : ∀ n, o ≠ .tick n) :
    t.pix.map outEnv = s.pix.map outEnv := by
  obtain ⟨req, i, -, -, hdec, run⟩ | ⟨req, c, -, -, -, rfl⟩ | ⟨req, f, -, -, -, rfl⟩ | ⟨n, ho, -⟩ | ⟨-, run⟩ :=
    runOp_cases h
  · exact exec_keeps_out_env (s := s.withBuf req) (isTick_of_wellFormed (wellFormed_of_decode hdec)) run
  · rfl
  · rfl
  · exact absurd ho (htick n)
  · exact exec_keeps_out_env rfl run

/-- Settles O51: what is left to a step is an operation other than TICK (`runOp_keeps_out_env`). -/
theorem outputChangesOnlyByTickOrReset : Obligations.OutputChangesOnlyByTickOrReset := by
  intro s t hstep htick hreset
  obtain ⟨-, rfl⟩ | ⟨ab, q, hq, -⟩ | ⟨o, q, hq, -, run⟩ := step_cases hstep
  · rfl
  · exact absurd hq (hreset ab q)
  · exact runOp_keeps_out_env (s := s.withQueue q) run fun n ho => htick n q (ho ▸ hq)

end Sys2Proof.Machine.FieldWriters
end

section
/-! LAW. The queries and the reserved command (spec/43_queries_reserved.md R180 to R183): a count fits its byte in a legal
state and replaces the sub-id alone (`replyByte_count`). -/

namespace Sys2Proof.Machine.Queries

theorem replyByte_count {s : State} (hs : s.Wf) {n : Nat} (hn : n ≤ 255) :
    (BitVec.ofNat 8 n).toNat = n ∧
      ∀ k, (s.replyByte (BitVec.ofNat 8 n)).buf[k]? = if k = 1 then some (BitVec.ofNat 8 n) else s.buf[k]? := by
  obtain ⟨⟨-, -, -, hmsg, -⟩, -, hbuf⟩ := hs
  obtain ⟨-, hset, -⟩ := s.replyByte_spec (BitVec.ofNat 8 n)
  refine ⟨?_, fun k => ?_⟩
  · rw [BitVec.toNat_ofNat]
    omega
  · rw [hset, List.getElem?_set, if_pos (by omega : 1 < s.buf.length)]
    simp only [eq_comm]

/-- Settles O38: both counts are below 256 in a legal state (R4, R5), and the reply is `State.replyByte_spec`. -/
theorem countQueriesReplyInByteOne : Obligations.CountQueriesReplyInByteOne := by
  intro s hs
  obtain ⟨⟨-, hled, hsections, -⟩, -⟩ := id hs
  constructor
  · obtain ⟨hcount, hbuf⟩ := replyByte_count hs hled
    obtain ⟨hpix, -, hport, hrest⟩ := s.replyByte_spec (BitVec.ofNat 8 s.cfg.ledCount)
    exact ⟨_, _, rfl, hcount, hbuf, hpix, hport, hrest⟩
  · obtain ⟨hcount, hbuf⟩ := replyByte_count hs (n := s.cfg.sectionCount) hsections
    obtain ⟨hpix, -, hport, hrest⟩ := s.replyByte_spec (BitVec.ofNat 8 s.cfg.sectionCount)
    exact ⟨_, _, rfl, hcount, hbuf, hpix, hport, hrest⟩

/-- Settles O39: the no-op is a bare completion (`State.complete_spec`). -/
theorem ledgetReturnsItsRequest : Obligations.LedgetReturnsItsRequest :=
  fun s => ⟨_, rfl, s.complete_spec⟩

end Sys2Proof.Machine.Queries
end

section
/-! LAW. One TICK on one pixel, in numbers (spec/41_tick_effects.md R151 to R160): the counters it leaves (`tickPixel_phase_toNat`,
`tickPixel_env_toNat`), the colours of the breathing and the color-cycle effects, and what the result depends on
(`tickPixel_congr`). -/

namespace Sys2Proof.Machine.TickPixels

open Sys2Proof.Machine.TickEffects Sys2Proof.Machine.ColourArithmetic

/-- A TICK found LED `i` and left it advanced. -/
theorem tick_led_some {s : State} {i : Nat} {p : Pixel} (h : s.led i = some p) (n : TickCount) :
    ((s.withPix (s.pix.map (tickPixel s.cfg n))).withPort .nothing).led i = some (tickPixel s.cfg n p) := by
  rw [execTick_led, h, Option.map_some]

/-! ### The counters -/

/-- R152's condition, over numbers. -/
abbrev Advances (p : Pixel) (n : TickCount) : Prop := p.speed.toNat ≠ 0 ∧ n.toNat % p.speed.toNat = 0

theorem tickPixel_phase_toNat (c : Cfg) (n : TickCount) (p : Pixel) :
    (tickPixel c n p).phase.toNat = if Advances p n then (p.phase.toNat + 1) % 256 else p.phase.toNat := by
  simp only [tickPixel_phase, advances_iff]
  split
  · simp [BitVec.toNat_add]
  · rfl

theorem nextEnv_toNat (p : Pixel) :
    (nextEnv p).toNat = if p.effect = .breatheUp ∧ p.phase.toNat = 255 then (p.env.toNat + 1) % 256 else p.env.toNat := by
  have hwrap : p.phase = 255 ↔ p.phase.toNat = 255 := BitVec.toNat_eq
  simp only [nextEnv, hwrap]
  split
  · simp [BitVec.toNat_add]
  · rfl

/-- The counter moves on an advance, and then as `nextEnv` says (R158). -/
theorem tickPixel_env_toNat (c : Cfg) (n : TickCount) (p : Pixel) :
    (tickPixel c n p).env.toNat =
      if Advances p n ∧ p.effect = .breatheUp ∧ p.phase.toNat = 255 then (p.env.toNat + 1) % 256 else p.env.toNat := by
  obtain ⟨-, -, -, -, -, -, henv⟩ := tickPixel_spec c n p
  rw [henv]
  by_cases hadv : Advances p n
  · rw [if_pos ((advances_iff p.speed n).mpr hadv), nextEnv_toNat]
    exact if_congr (and_iff_right hadv).symm rfl rfl
  · rw [if_neg (mt (advances_iff p.speed n).mp hadv), if_neg (mt And.left hadv)]

/-- Settles O40: the run is one equation (`exec_tick`), each record is rewritten by `tickPixel` (`execTick_led`), and its
two counters are numbers modulo 256. -/
theorem tickEvolvesEveryPixel : Obligations.TickEvolvesEveryPixel := by
  intro s n
  refine ⟨_, exec_tick n s, rfl, rfl, ⟨rfl, rfl, rfl, rfl⟩, fun i hi => ?_, fun i p hp => ?_⟩
  · rw [execTick_led, hi, Option.map_none]
  · obtain ⟨hbase, heffect, hspeed, hbright, -⟩ := tickPixel_spec s.cfg n p
    exact ⟨_, tick_led_some hp n, hbase, heffect, hspeed, hbright, tickPixel_phase_toNat s.cfg n p,
      tickPixel_env_toNat s.cfg n p⟩

/-! ### The colours -/

theorem scaleColour_toNat (x : Colour) (k : Byte) :
    (scaleColour x k).r.toNat = x.r.toNat * k.toNat / 255 ∧ (scaleColour x k).g.toNat = x.g.toNat * k.toNat / 255 ∧
      (scaleColour x k).b.toNat = x.b.toNat * k.toNat / 255 :=
  ⟨scale255_toNat x.r k, scale255_toNat x.g k, scale255_toNat x.b k⟩

theorem complement_toNat (v : Byte) : (255 - v).toNat = 255 - v.toNat := by
  bv_omega

/-- Settles O42: the two breathing rows of `effectFn` scale the base, whose channels are exact quotients
(`scale255_toNat`). -/
theorem breathingScalesTheBase : Obligations.BreathingScalesTheBase := by
  intro s n i p hp k hk
  refine ⟨_, _, exec_tick n s, tick_led_some hp n, ?_⟩
  rw [tickPixel_out]
  obtain ⟨heffect, rfl⟩ | ⟨heffect, rfl⟩ := hk <;> rw [heffect, effectFn]
  · exact scaleColour_toNat p.base p.phase
  · rw [← complement_toNat]
    exact scaleColour_toNat p.base (255 - p.phase)

/-- The second component rises with the position inside a sextant of even number, and falls inside one of odd number. -/
theorem second_component_eq (h : Nat) : (if h % 510 ≤ 255 then h % 510 else 510 - h % 510) =
    if h / 255 % 2 = 0 then h % 255 else 255 - h % 255 := by
  split <;> split <;> omega

/-- R157's table is the conversion by sextant: the bounds 255, 510, … are where the sextant's number changes. -/
theorem hslTable_toNat (v : Byte) :
    let h := 6 * v.toNat
    let x := if h % 510 ≤ 255 then h % 510 else 510 - h % 510
    ((hslTable v).r.toNat, (hslTable v).g.toNat, (hslTable v).b.toNat) =
      if h < 255 then (255, x, 0) else if h < 510 then (x, 255, 0) else if h < 765 then (0, 255, x)
      else if h < 1020 then (0, x, 255) else if h < 1275 then (x, 0, 255) else (255, 0, x) := by
  intro h x
  have hmax : h ≤ 1530 := by have := v.isLt; omega
  have hup : (BitVec.ofNat 8 (h % 255)).toNat = h % 255 := by rw [BitVec.toNat_ofNat]; omega
  have hdown : (BitVec.ofNat 8 (255 - h % 255)).toNat = 255 - h % 255 := by rw [BitVec.toNat_ofNat]; omega
  have hx : x = if h / 255 % 2 = 0 then h % 255 else 255 - h % 255 := second_component_eq h
  have hsextant : h / 255 < 6 ∨ h = 1530 := by omega
  simp only [show h < 255 ↔ h / 255 < 1 by omega, show h < 510 ↔ h / 255 < 2 by omega,
    show h < 765 ↔ h / 255 < 3 by omega, show h < 1020 ↔ h / 255 < 4 by omega, show h < 1275 ↔ h / 255 < 5 by omega,
    hx, hslTable, ← show h = 6 * v.toNat from rfl]
  obtain hlt | hlast := hsextant
  · interval_cases h / 255 <;> simp [hup, hdown]
  · simp [hlast]

/-- Settles O43: the colour is the color-cycle row of `effectFn`, the configuration's list before R157's table
(`hslTable_toNat`). -/
theorem colorCycleSweepsTheWheel : Obligations.ColorCycleSweepsTheWheel := by
  intro s n i p hp heffect
  have hout : (tickPixel s.cfg n p).out = hsl2rgb s.cfg p.phase := by rw [tickPixel_out, heffect, effectFn]
  refine ⟨_, _, exec_tick n s, tick_led_some hp n, fun col hlisted => ?_, fun hunlisted => ?_⟩
  · rw [hout, hsl2rgb, hlisted, Option.getD_some]
  · rw [hout, hsl2rgb, hunlisted, Option.getD_none]
    exact hslTable_toNat p.phase

/-! ### What the result depends on -/

/-- Of the configuration, an effect reads the hue function alone. -/
theorem effectFn_congr {c c' : Cfg} (h : c.hslPatch = c'.hslPatch) (e : Effect) (base : Colour) (v : Byte) :
    effectFn c e base v = effectFn c' e base v := by
  cases e <;> simp [effectFn, hsl2rgb, h]

theorem tickPixel_congr {c c' : Cfg} (h : c.hslPatch = c'.hslPatch) (n : TickCount) (p : Pixel) :
    tickPixel c n p = tickPixel c' n p := by
  simp only [tickPixel, effectFn_congr h]

/-- Settles O44: `tickPixel` reads the pixel, the count and the hue function (`tickPixel_congr`). -/
theorem tickTreatsPixelsAlone : Obligations.TickTreatsPixelsAlone := by
  intro s s' t t' n i j hpatch hled ht ht'
  rw [tick_led ht, tick_led ht', hled, funext (tickPixel_congr hpatch n)]

end Sys2Proof.Machine.TickPixels
end

section
/-! LAW. Sequences of TICKs (spec/41_tick_effects.md section 1, spec/70_reset_and_hazards.md R216, R218): what a sequence leaves
in a pixel is a fold of its own (`execAll_ticks`), along which the phase moves once for each count the speed divides
(`tickAll_phase_toNat`), and does not move at all at speed 0. -/

namespace Sys2Proof.Machine.TickSequences

open Sys2Proof.Machine.TickEffects Sys2Proof.Machine.TickPixels Sys2Proof.Machine.FillVisibility

/-- What TICKs at these counts leave in a pixel; `execAll_ticks` ties it to the model. -/
def tickAll (c : Cfg) (ns : List TickCount) (p : Pixel) : Pixel := ns.foldl (fun q n => tickPixel c n q) p

theorem tickAll_cons (c : Cfg) (n : TickCount) (ns : List TickCount) (p : Pixel) :
    tickAll c (n :: ns) p = tickAll c ns (tickPixel c n p) := rfl

theorem execAll_ticks (ns : List TickCount) : ∀ s : State, ∃ t, execAll (ns.map .tick) s = .next t ∧
    ∀ i, t.led i = (s.led i).map (tickAll s.cfg ns) := by
  induction ns with
  | nil => exact fun s => ⟨s, rfl, fun i => Option.map_id'.symm⟩
  | cons n ns ih =>
    intro s
    obtain ⟨t, run, hled⟩ := ih ((s.withPix (s.pix.map (tickPixel s.cfg n))).withPort .nothing)
    refine ⟨t, (execAll_cons_of_next (exec_tick n s) _).trans run, fun i => ?_⟩
    rw [hled, execTick_led, Option.map_map]
    rfl

theorem execAll_ticks_led {s : State} {i : Nat} {p : Pixel} (h : s.led i = some p) (ns : List TickCount) :
    ∃ t, execAll (ns.map .tick) s = .next t ∧ t.led i = some (tickAll s.cfg ns p) := by
  obtain ⟨t, run, hled⟩ := execAll_ticks ns s
  exact ⟨t, run, by rw [hled, h, Option.map_some]⟩

/-! ### Speed 0 -/

/-- At speed 0 a TICK shows the colour of the phase and does nothing else (R159, D14). -/
theorem tickPixel_of_speed_zero {p : Pixel} (h : p.speed = 0) (c : Cfg) (n : TickCount) :
    tickPixel c n p = { p with out := effectFn c p.effect p.base p.phase } := by
  have hstays : ¬ advances p.speed n = true := by simp [advances, h]
  rw [tickPixel, if_neg hstays]

theorem tickAll_of_speed_zero (c : Cfg) (ns : List TickCount) : ∀ {p : Pixel} (n : TickCount), p.speed = 0 →
    tickAll c (n :: ns) p = { p with out := effectFn c p.effect p.base p.phase } := by
  induction ns with
  | nil => exact fun n h => tickPixel_of_speed_zero h c n
  | cons m ns ih =>
    intro p n h
    rw [tickAll_cons, tickPixel_of_speed_zero h]
    exact ih m h

/-- Settles O45: from the second TICK on each one finds what the first one left (`tickAll_of_speed_zero`). -/
theorem speedZeroFreezesThePhase : Obligations.SpeedZeroFreezesThePhase := by
  intro ns s i p hp hspeed
  obtain ⟨t, run, hled⟩ := execAll_ticks_led hp ns
  cases ns with
  | nil => exact ⟨t, p, run, hled, rfl, rfl, hspeed, fun h => absurd rfl h⟩
  | cons n ns =>
    rw [tickAll_of_speed_zero _ _ _ hspeed] at hled
    exact ⟨t, _, run, hled, rfl, rfl, hspeed, fun _ => rfl⟩

/-! ### The rate -/

theorem tickPixel_speed (c : Cfg) (n : TickCount) (p : Pixel) : (tickPixel c n p).speed = p.speed := by
  obtain ⟨-, -, hspeed, -⟩ := tickPixel_spec c n p
  exact hspeed

theorem tickAll_phase_toNat (c : Cfg) (ns : List TickCount) : ∀ p : Pixel,
    (tickAll c ns p).phase.toNat = (p.phase.toNat + ns.countP (advances p.speed)) % 256 := by
  induction ns with
  | nil => exact fun p => (Nat.mod_eq_of_lt p.phase.isLt).symm
  | cons n ns ih =>
    intro p
    rw [tickAll_cons, ih, tickPixel_speed, tickPixel_phase, List.countP_cons]
    split
    · rw [BitVec.toNat_add]
      simp
      omega
    · rw [Nat.add_zero]

/-- `d` consecutive numbers hold one multiple of `d`. -/
theorem countP_multiples_of_window (t0 : Nat) {d : Nat} (hd : 0 < d) :
    (List.range d).countP (fun k => t0 + k ≡ 0 [MOD d]) = 1 := by
  have window := Nat.count_add (· ≡ 0 [MOD d]) t0 d
  rw [Nat.count_modEq_card _ hd, Nat.count_modEq_card _ hd, Nat.add_div_right _ hd, Nat.add_mod_right] at window
  have hone : Nat.count (fun k => t0 + k ≡ 0 [MOD d]) d = 1 := by omega
  exact hone

/-- Settles O46: the phase moves once for each count the speed divides (`tickAll_phase_toNat`), and of `d` counts that do
not wrap the speed `d` divides one (`countP_multiples_of_window`). -/
theorem consecutiveTicksAdvanceOncePerDivisor : Obligations.ConsecutiveTicksAdvanceOncePerDivisor := by
  intro s t0 i p hp hspeed hwrap
  have hpos : 0 < p.speed.toNat := Nat.pos_of_ne_zero fun h => hspeed (BitVec.eq_of_toNat_eq h)
  let counts : List TickCount := (List.range p.speed.toNat).map fun k => BitVec.ofNat 32 (t0 + k)
  have hone : counts.countP (advances p.speed) = 1 := by
    rw [← countP_multiples_of_window t0 hpos, List.countP_map]
    refine List.countP_congr fun k hk => ?_
    have hk : k < p.speed.toNat := List.mem_range.mp hk
    have hcount : (BitVec.ofNat 32 (t0 + k)).toNat = t0 + k := by
      rw [BitVec.toNat_ofNat]
      exact Nat.mod_eq_of_lt (by omega)
    rw [Function.comp_apply, advances_iff, hcount, and_iff_right hpos.ne', decide_eq_true_iff, Nat.ModEq, Nat.zero_mod]
  obtain ⟨t, run, hled⟩ := execAll_ticks_led hp counts
  refine ⟨t, _, ?_, hled, ?_⟩
  · rw [execTicks, ← run, List.map_map]
    rfl
  · rw [tickAll_phase_toNat, hone]

end Sys2Proof.Machine.TickSequences
end

section
/-! LAW. The initialisation sequence (spec/70_reset_and_hazards.md R212): fills of the whole strip compose LED by LED
(`execAll_fillsAll`), and once base, effect with phase, speed and brightness are filled, a TICK leaves nothing visible of
what a record held (`visible_initialised`). -/

namespace Sys2Proof.Machine.Initialisation

open Sys2Proof.Machine.Fills Sys2Proof.Machine.FillVisibility Sys2Proof.Machine.EnvelopeCounter
  Sys2Proof.Machine.ComposeFrame Sys2Proof.Machine.TickEffects

/-! ### Fills of the whole strip -/

/-- The form `i` writes `x` on every LED. -/
def FillsAll (i : Instr) (x : Attr) : Prop := ∃ val, ledsetParts i = some (.all, val) ∧ validate val = .ok x

/-- What fills of the whole strip leave in LED `k`, the last LED being `b`; `execAll_fillsAll` ties it to the model. -/
def applyAll (k b : Nat) (xs : List Attr) (p : Pixel) : Pixel := xs.foldl (fun q x => x.apply k 0 b q) p

/-- In a legal state the range of ALL leaves no LED out (R104). -/
theorem ledSet_all_led {s : State} (hs : s.Wf) {val : Value} {x : Attr} (hv : validate val = .ok x) (k : Nat) :
    (s.ledSet .all val).led k = (s.led k).map fun p => x.apply k 0 (s.cfg.ledCount - 1) p := by
  obtain ⟨hled, -⟩ := ledSet_filledBy (resolve_all s.cfg) hv
  rw [hled]
  split
  next => rfl
  next hout =>
    cases hp : s.led k with
    | none => rfl
    | some p =>
      have := lt_ledCount_of_led hs hp
      omega

theorem ledSet_wf {s : State} (hs : s.Wf) (sel : Selector) (val : Value) : (s.ledSet sel val).Wf := by
  obtain ⟨hcfg, hpix, hbuf⟩ := hs
  obtain ⟨hpix', hbuf', hcfg', -⟩ := s.ledSet_frame sel val
  rw [State.Wf, hcfg', hpix', hbuf']
  exact ⟨hcfg, hpix, hbuf⟩

theorem execAll_fillsAll {is : List Instr} {xs : List Attr} (h : List.Forall₂ FillsAll is xs) :
    ∀ {s : State}, s.Wf → ∃ t, execAll is s = .next t ∧ t.cfg = s.cfg ∧
      ∀ k, t.led k = (s.led k).map (applyAll k (s.cfg.ledCount - 1) xs) := by
  induction h with
  | nil => exact fun {s} _ => ⟨s, rfl, rfl, fun k => Option.map_id'.symm⟩
  | @cons i x is xs hfill _ ih =>
    intro s hs
    obtain ⟨val, parts, hv⟩ := hfill
    obtain ⟨-, -, hcfg, -⟩ := s.ledSet_frame .all val
    obtain ⟨t, run, hcfg', hled⟩ := ih (ledSet_wf hs .all val)
    refine ⟨t, (execAll_cons_of_next (exec_of_ledsetParts parts s) is).trans run, hcfg'.trans hcfg, fun k => ?_⟩
    rw [hled, hcfg, ledSet_all_led hs hv, Option.map_map]
    rfl

/-! ### The sequence of R212 -/

/-- An effect form writes the effect, and either phase that comes with it, over what was there. -/
def IsEffectAttr (x : Attr) : Prop := ∃ e, x = .effect e ∨ x = .effectSpaced e

/-- After the four fills and a TICK the record's old contents show in no field but `env`. -/
theorem visible_initialised {x : Attr} (hx : IsEffectAttr x) (base : Colour) (v w : Byte) (c : Cfg) (n : TickCount)
    (k b : Nat) (p q : Pixel) :
    Pixel.visible (tickPixel c n (applyAll k b [.color base, x, .speed v, .brightness w] p)) =
      Pixel.visible (tickPixel c n (applyAll k b [.color base, x, .speed v, .brightness w] q)) := by
  obtain ⟨e, rfl | rfl⟩ := hx <;> rw [visible_tickPixel_eq, visible_tickPixel_eq] <;> rfl

/-- The whole sequence on one legal state. -/
theorem initialisation_spec {s : State} (hs : s.Wf) {setEffect : Instr} {x : Attr} (hx : FillsAll setEffect x)
    (r g b v w : Byte) (n : TickCount) :
    ∃ t, execAll [.ledsetAllColor r g b, setEffect, .ledsetAllSpeed v, .ledsetAllBrightness w, .tick n, .compose] s
        = .next t ∧ t.port = .frame (t.pix.map project) ∧
      ∀ k, t.led k = (s.led k).map fun p =>
        tickPixel s.cfg n (applyAll k (s.cfg.ledCount - 1) [.color ⟨r, g, b⟩, x, .speed v, .brightness w] p) := by
  have fills : List.Forall₂ FillsAll [.ledsetAllColor r g b, setEffect, .ledsetAllSpeed v, .ledsetAllBrightness w]
      [.color ⟨r, g, b⟩, x, .speed v, .brightness w] :=
    .cons ⟨_, rfl, rfl⟩ (.cons hx (.cons ⟨_, rfl, rfl⟩ (.cons ⟨_, rfl, rfl⟩ .nil)))
  obtain ⟨u, run, hcfg, hled⟩ := execAll_fillsAll fills hs
  refine ⟨_, (execAll_append_of_next [.tick n, .compose] run).trans rfl, rfl, fun k => ?_⟩
  calc _ = (u.led k).map (tickPixel u.cfg n) := execTick_led n u k
    _ = _ := by rw [hled, hcfg, Option.map_map]; rfl

/-- Over strips of one length, a rewriting that forgets the record gives one result. -/
theorem led_map_congr_of_forgets {s s' : State} (hlen : s.pix.length = s'.pix.length) {f : Pixel → Pixel}
    (hf : ∀ p q, f p = f q) (k : Nat) : (s.led k).map f = (s'.led k).map f := by
  rw [State.led_eq, State.led_eq]
  by_cases hk : k < s.pix.length
  · rw [List.getElem?_eq_getElem hk, List.getElem?_eq_getElem (hlen ▸ hk), Option.map_some, Option.map_some, hf]
  · rw [List.getElem?_eq_none (Nat.le_of_not_lt hk), List.getElem?_eq_none (hlen ▸ Nat.le_of_not_lt hk)]

/-- Settles O52: both runs end in the same visible records (`visible_initialised`), and the frame is projected from those
(`frame_eq_of_visible`). -/
theorem initialisationFixesThePicture : Obligations.InitialisationFixesThePicture := by
  intro s s' r g b v w n setEffect e hs hs' hcfg hset
  obtain ⟨x, hfill, hx⟩ : ∃ x, FillsAll setEffect x ∧ IsEffectAttr x := by
    obtain rfl | rfl := hset
    · exact ⟨_, ⟨_, rfl, validate_effect e⟩, e, .inl rfl⟩
    · exact ⟨_, ⟨_, rfl, validate_effectSpaced e⟩, e, .inr rfl⟩
  obtain ⟨t, run, hport, hled⟩ := initialisation_spec hs hfill r g b v w n
  obtain ⟨t', run', hport', hled'⟩ := initialisation_spec hs' hfill r g b v w n
  have hlen : s.pix.length = s'.pix.length := by
    obtain ⟨-, hpix, -⟩ := hs
    obtain ⟨-, hpix', -⟩ := hs'
    rw [hpix, hpix', hcfg]
  have hvisible : t.pix.map Pixel.visible = t'.pix.map Pixel.visible := by
    rw [visible_pix_iff]
    intro k
    rw [hled, hled', hcfg, Option.map_map, Option.map_map]
    exact led_map_congr_of_forgets hlen (visible_initialised hx ⟨r, g, b⟩ v w s'.cfg n k (s'.cfg.ledCount - 1)) k
  exact ⟨t, t', _, run, run', hport, by rw [hport', frame_eq_of_visible hvisible], hvisible⟩

end Sys2Proof.Machine.Initialisation
end
